-- ==== Sys2Proof/Word.lean ====
section
/-! DEFINITION. The word types of the VL416 model: data bytes, station addresses and time. -/

namespace Sys2Proof

/-- A data byte: one character of a frame, one byte of the local port, a key, a generation or a tag
(12_layouts_and_codes). -/
abbrev Byte := BitVec 8

/-- A station address or an address field of a frame, 0..31 (R79, R145). -/
abbrev Addr := BitVec 5

/-- A length of time, counted in cycles of the 16 MHz REFCLK (00_scope, Pins): 16 000 cycles are 1 ms. -/
abbrev Time := Nat

end Sys2Proof
end

