-- ==== Sys2Proof/Config.lean ====
section
/-! DEFINITION. What is fixed for one machine and what the manual leaves open: the straps at the first
release of RESET_N, and the free values that settle the orders the manual does not fix. -/

namespace Sys2Proof

/-- The ADDR straps that `State.reset` was sampled with. DESIGN CHOICE (log 1): the manual gives the
straps no value. `HARD_RESET` samples any other. -/
def Config.resetAddr : Addr := 1

/-- The RATE straps that `State.reset` was sampled with. DESIGN CHOICE (log 1). -/
def Config.resetRate : BitVec 2 := 0

/-- Free value (log 5): where in the order of the events of one moment the next event is put. R38, R66,
R96, R114 and R157 let either of two events of one moment be taken first, so nothing may be known of it. -/
opaque Config.takenAt : Nat → Nat

/-- Free value (log 6): whether the PRESENCE order that answers a joining PRESENCE joins the normal lane
before the ASK orders that the same frame's reconciliation restarts. R94 fixes no order among the blocks. -/
opaque Config.answerFirst : Nat → Bool

end Sys2Proof
end

