-- ==== Sys2Proof/Syntax.lean ====
section
/-! DEFINITION. The commands the block takes: one constructor for every row of spec/opcode_table.json,
with the row's operands. -/

namespace Sys2Proof

/-- The two edges of RESET_N that `HARD_RESET` is made of (R146). -/
inductive ResetEdge where
  /-- RESET_N goes low, or power-up begins. -/
  | fall
  /-- RESET_N rises, with the ADDR and RATE straps as they are sampled at that moment (R145). -/
  | rise (addr : Addr) (rate : BitVec 2)
  deriving DecidableEq, Repr

/-- How far a transaction of the local port has got when the row is given (R166, R167). The stages let
events of other blocks fall between the fall of SEL_N, the taking of the code and the rise of SEL_N. -/
inductive PortStage where
  /-- SEL_N falls: the status bytes are taken. -/
  | select
  /-- The transaction code has been clocked. -/
  | code
  /-- SEL_N rises after `clocked` whole bytes in all, the code byte among them. A stage that was not given
  before is taken at this same moment. -/
  | rise (clocked : Nat)
  deriving DecidableEq, Repr

/-- The rows of spec/opcode_table.json. A command row carries the bytes that the host clocked after the
command code, so that records of every length can be given (R170). -/
inductive Instr where
  /-- HARD_RESET (R146). -/
  | hardReset (edge : ResetEdge)
  /-- STATUS transaction, code 0xA0 (R167, R169). -/
  | status (stage : PortStage)
  /-- A transaction whose code is none of 0xA0..0xA4 (R167). -/
  | unknownTransactionCode (code : Byte) (stage : PortStage)
  /-- FETCH RESULT transaction, code 0xA2 (R172). -/
  | fetchResult (stage : PortStage)
  /-- FETCH NOTICE transaction, code 0xA3 (R176). -/
  | fetchNotice (stage : PortStage)
  /-- FETCH MAIL transaction, code 0xA4 (R164). -/
  | fetchMail (stage : PortStage)
  /-- A COMMAND transaction with this record, which R170 turns away at its step 1 or 2. -/
  | commandRefused (record : List Byte)
  /-- A COMMAND record whose code is none of the eleven (R170 step 3), and the bytes after the code. -/
  | unknownCommand (code : Byte) (fields : List Byte)
  /-- ESTABLISH, code 0x01: S, W, retry limit, notice mask, broadcast acceptance (R148, R149). -/
  | establish (fields : List Byte)
  /-- ASK, code 0x02: key, mode (R18, R19). -/
  | ask (fields : List Byte)
  /-- RELEASE, code 0x03: key (R39). -/
  | release (fields : List Byte)
  /-- WATCH, code 0x04: key (R12). -/
  | watch (fields : List Byte)
  /-- UNWATCH, code 0x05: key (R13). -/
  | unwatch (fields : List Byte)
  /-- QUERY, code 0x06: key (R14). -/
  | query (fields : List Byte)
  /-- ROSTER, code 0x07: no field (R78). -/
  | roster (fields : List Byte)
  /-- POST, code 0x08: destination, tag, length, payload (R159). -/
  | post (fields : List Byte)
  /-- LEAVE, code 0x09: no field (R151). -/
  | leave (fields : List Byte)
  /-- RESTART, code 0x0A: no field (R156). -/
  | restart (fields : List Byte)
  /-- COUNTERS, code 0x0B: no field (R179). -/
  | counters (fields : List Byte)
  /-- The Line Receiver delivers a character (R103); `cut` when an edge ended its stop bit early (R102). -/
  | character (data : Byte) (mark noisy framingError cut : Bool)
  /-- The idle age reaches 4 (R87, R105). -/
  | gapLimit
  /-- The recessive count reaches 12 in SETTLING (R104). -/
  | settlingEnd
  /-- A dominant run reaches 11 bit times (R111). -/
  | longDominant
  /-- A dominant run reaches 110 bit times (R112). -/
  | stuckBegin
  /-- The recessive count reaches 12 in STUCK (R113). -/
  | stuckEnd
  /-- An intact foreign PRESENCE completes (R53, R63, R65, R73). -/
  | presenceArrival (source : Addr) (joining leaving : Bool) (pairs : List (Byte × Byte)) (noisy : Bool)
  /-- An intact foreign ASK completes (R25). -/
  | askArrival (source : Addr) (key : Byte) (noisy : Bool)
  /-- An intact foreign OBJECT completes (R28). -/
  | objectArrival (source : Addr) (key precedent reason gen : Byte) (noisy : Bool)
  /-- An intact foreign HOLD completes (R34). -/
  | holdArrival (source : Addr) (key gen : Byte) (noisy : Bool)
  /-- An intact foreign FREE completes (R45). -/
  | freeArrival (source : Addr) (key gen : Byte) (withdrawn noisy : Bool)
  /-- An intact foreign POST completes (R162). -/
  | postArrival (source : Addr) (destination : Byte) (payload : List Byte) (noisy : Bool)
  /-- An intact foreign frame carrying the own address completes (R93, R150): from the own address, or an
  OBJECT from `source` whose precedent is the own address. -/
  | addressClash (source : Addr) (noisy : Bool)
  /-- The moment to begin an attempt has come (R130). -/
  | attemptBegin
  /-- A bit driven recessive is read dominant (R138). -/
  | yield
  /-- A bit driven dominant is read recessive (R139). -/
  | driveFault
  /-- The last bit of the attempt is read back as driven (R140). -/
  | attemptCompletes (noisy : Bool)
  /-- The objection window of the key's entry expires (R31). -/
  | windowExpiry (key : Byte)
  /-- The peer-ask deferral of the key's entry expires (R36). -/
  | deferralExpiry (key : Byte)
  /-- The listen timer expires (R75). -/
  | listenExpiry
  /-- The leave limit expires (R152). -/
  | leaveLimitExpiry
  /-- The roster age of this address reaches the silence timeout (R64). -/
  | peerSilent (peer : Addr)
  /-- The presence count reaches T_s/4 (R70). -/
  | presencePeriod
  /-- The silence count reaches T_s/2 (R72). -/
  | silenceCountExpiry
  /-- A start bit is verified (R100, R106); `noisy` when its three samples disagreed. -/
  | startBitVerified (noisy : Bool)
  /-- A candidate start bit is judged false (R100, R106). -/
  | falseStart
  /-- RXD reads recessive for the first time after a framing error, a hard reset or RESTART (R99, R107). -/
  | firstRecessiveSample
  deriving DecidableEq, Repr

end Sys2Proof
end

