-- ==== Sys2Proof/Decode.lean ====
section
/-! DEFINITION. The rows that words and host bytes spell: no row of spec/opcode_table.json gives bits, so no word
spells a command; the bytes that the host clocks in a transaction spell the rows of the local port. -/

namespace Sys2Proof

/-- No row of the table gives bits: no word spells a command. -/
def decodeTableWord (_nbits _w : Nat) : Option Instr := none

/-! ### The bytes of the host (R167, R170) -/

/-- The code of a STATUS transaction (R167). -/
def codeStatus : Byte := 0xA0

/-- The code of a COMMAND transaction (R167). -/
def codeCommand : Byte := 0xA1

/-- The code of a FETCH RESULT transaction (R167). -/
def codeFetchResult : Byte := 0xA2

/-- The code of a FETCH NOTICE transaction (R167). -/
def codeFetchNotice : Byte := 0xA3

/-- The code of a FETCH MAIL transaction (R167). -/
def codeFetchMail : Byte := 0xA4

/-- A transaction code the part knows (R167). -/
def knownTransactionCode (c : Byte) : Bool :=
  c == codeStatus || c == codeCommand || c == codeFetchResult || c == codeFetchNotice || c == codeFetchMail

/-- The row of a COMMAND transaction with this record (the command codes of 12.3, R170). -/
def commandRow : List Byte → Instr
  | [] => .commandRefused []
  | code :: fields =>
    if code = 0x01 then .establish fields
    else if code = 0x02 then .ask fields
    else if code = 0x03 then .release fields
    else if code = 0x04 then .watch fields
    else if code = 0x05 then .unwatch fields
    else if code = 0x06 then .query fields
    else if code = 0x07 then .roster fields
    else if code = 0x08 then .post fields
    else if code = 0x09 then .leave fields
    else if code = 0x0A then .restart fields
    else if code = 0x0B then .counters fields
    else .unknownCommand code fields

/-- The row of a whole transaction in which the host clocked these bytes (R167). Without a code byte there is
no row: such a transaction has no code. -/
def hostRow : List Byte → Option Instr
  | [] => none
  | code :: rest =>
    if code = codeStatus then some (.status (.rise (rest.length + 1)))
    else if code = codeCommand then some (commandRow rest)
    else if code = codeFetchResult then some (.fetchResult (.rise (rest.length + 1)))
    else if code = codeFetchNotice then some (.fetchNotice (.rise (rest.length + 1)))
    else if code = codeFetchMail then some (.fetchMail (.rise (rest.length + 1)))
    else some (.unknownTransactionCode code (.rise (rest.length + 1)))

end Sys2Proof
end

