-- ==== Sys2Proof/Machine/State.lean ====
section
/-! DEFINITION. The state of the block: every register, queue, timer, mode and pin the spec gives it, as
plain data, and the reasons a step can stop. INVENTORY.md, section State, lists the fields with their rules. -/

namespace Sys2Proof.Machine

/-! ### Types of the blocks -/

/-- The six station states (chapter 9). -/
inductive StationState where
  | unconfigured
  | listening
  | active
  | leaving
  | offline
  | mute
  deriving DecidableEq, Repr

/-- The configuration frozen by ESTABLISH (R149). `silenceUnit` is S, `window` is W in ms. -/
structure Configuration where
  silenceUnit : Byte
  window : Byte
  retryLimit : Byte
  mask : Byte
  broadcast : Bool
  deriving DecidableEq, Repr

/-- The two levels of the line (R97). -/
inductive Level where
  | dominant
  | recessive
  deriving DecidableEq, Repr

/-- What the world outside does to the line at one sample point (log 3). -/
inductive LineSample where
  /-- No other station drives: RXD reads this station's own drive. -/
  | released
  /-- Another station, or a fault, drives the line dominant. -/
  | held
  /-- This station's path to the line fails and no other station drives: RXD reads recessive. -/
  | cut
  deriving DecidableEq, Repr

/-- A verified character in progress (R101). `bit` is 0 for the start bit, 1..8 for d0..d7, 9 for the mark
bit, 10 for the stop bit; `point` is the last sample point taken, 1..8; `mids` are the samples taken so far
at points 4 to 6; `value` is the bit's value once taken; `bits` are the values of the earlier bits from d0. -/
structure Reception where
  bit : Nat
  point : Nat
  mids : List Level
  value : Option Level
  bits : List Level
  noisy : Bool
  deriving DecidableEq, Repr

/-- The four conditions of the Line Receiver (section 6.2). -/
inductive Receiver where
  | recovering
  | searching
  /-- A candidate start bit: last sample point taken, and the samples of points 4 to 6 so far (R100). -/
  | starting (point : Nat) (mids : List Level)
  | receiving (r : Reception)
  deriving DecidableEq, Repr

/-- The Line Monitor's state with the items its state carries (section 6.3). Recessive counts are held in
samples, eight to the bit time. `idle elapsed age`: the samples since idle age 0, and the idle age as last
handed on, which a candidate start bit holds back (R105, R106). -/
inductive Monitor where
  | settling (recessive : Nat)
  | idle (elapsed age : Nat)
  | busy
  | stuck (recessive : Nat)
  deriving DecidableEq, Repr

/-- The frame kinds 0..5 (R79). -/
inductive Kind where
  | presence
  | ask
  | object
  | hold
  | free
  | post
  deriving DecidableEq, Repr

/-- The frame under assembly (R83). -/
structure Assembly where
  kind : Kind
  source : Addr
  chars : List Byte
  expected : Option Nat
  noisy : Bool
  deriving DecidableEq, Repr

/-- The three conditions of the Frame Decoder (section 5.3). -/
inductive Decoder where
  | waiting
  | assembling (a : Assembly)
  | skipping
  deriving DecidableEq, Repr

/-- The fields of a frame after its kind and source (R79 to R81), as the bytes of 12.1 carry them. -/
inductive Body where
  | presence (joining leaving : Bool) (pairs : List (Byte × Byte))
  | ask (key : Byte)
  | object (key precedent reason gen : Byte)
  | hold (key gen : Byte)
  | free (key gen : Byte) (withdrawn : Bool)
  | post (destination : Byte) (payload : List Byte)
  deriving DecidableEq, Repr

/-- A frame (R79). -/
structure Frame where
  source : Addr
  body : Body
  deriving DecidableEq, Repr

/-- The host's standing instruction for a key (R5). -/
inductive Want where
  | none
  | once
  | wait
  deriving DecidableEq, Repr

/-- The state of an entry with the fields that state carries (R2): the asker and the deferral's remaining
time; whether the ASK has been sent, and then the window's remaining time; the holder. A MINE entry's holder
is the own address. -/
inductive Claim where
  | free
  | peerAsking (asker : Addr) (deferral : Time)
  | asking (window : Option Time)
  | mine
  | theirs (holder : Addr)
  deriving DecidableEq, Repr

/-- A non-vacant entry of the Claim Table (R2). -/
structure Entry where
  key : Byte
  want : Want
  gen : Byte
  claim : Claim
  deriving DecidableEq, Repr

/-- A PRESENT peer entry of the Roster (R61); an ABSENT one is `none`. -/
structure Peer where
  age : Time
  joining : Bool
  frames : Nat
  deriving DecidableEq, Repr

/-- The own entry of the Roster (R62). -/
structure OwnEntry where
  present : Bool
  joining : Bool
  silence : Option Time
  presence : Option Time
  listen : Option Time
  deriving DecidableEq, Repr

/-- A post as the host gave it (R115). -/
structure Post where
  destination : Byte
  tag : Byte
  payload : List Byte
  deriving DecidableEq, Repr

/-- The orders of the urgent lane (R115, R116). -/
inductive UrgentOrder where
  | object (key : Byte)
  | hold (key : Byte)
  | free (key : Byte) (withdrawn : Bool)
  deriving DecidableEq, Repr

/-- The orders of the normal lane (R115, R119). -/
inductive NormalOrder where
  | ask (key : Byte)
  | presence (leaving : Bool)
  | post (p : Post)
  deriving DecidableEq, Repr

/-- An order with the lane it stands in. -/
inductive Order where
  | urgent (o : UrgentOrder)
  | normal (o : NormalOrder)
  deriving DecidableEq, Repr

/-- The attempt slot (R133): the order with its lane and marks, the frozen frame, the samples driven since
the own start edge, and the bit position, counted as the bits checked so far (R137). -/
structure Attempt where
  order : Order
  frame : Frame
  driven : Nat
  checked : Nat
  deriving DecidableEq, Repr

/-- The Access Engine's condition (R128). The attempt slot holds a frame exactly while DRIVING. -/
inductive Access where
  | off
  | empty
  | slotWait
  | openWait
  | driving (a : Attempt)
  deriving DecidableEq, Repr

/-- A post in the Mailbox (R163). -/
structure Mail where
  source : Addr
  broadcast : Bool
  payload : List Byte
  deriving DecidableEq, Repr

/-- The reasons of REFUSED and LOST notices (R32, R60). -/
inductive EndReason where
  | peerFirst
  | peerHeld
  | silent
  | muted
  | split
  deriving DecidableEq, Repr

/-- The reasons of FREED notices (R60). -/
inductive FreedReason where
  | released
  | orphaned
  | reconciled
  deriving DecidableEq, Repr

/-- How a leave ended (R152). -/
inductive LeftReason where
  | heard
  | unheard
  deriving DecidableEq, Repr

/-- The kinds of LINE_FAULT (R174). -/
inductive LineFault where
  | stuckBegin
  | stuckEnd
  | clash
  | drive
  deriving DecidableEq, Repr

/-- A notice record (R174). -/
inductive Notice where
  | granted (key gen : Byte)
  | refused (key : Byte) (reason : EndReason) (station : Addr)
  | lost (key : Byte) (reason : EndReason) (station : Addr)
  | reasserted (key gen : Byte)
  | joined (peers : Nat)
  | left (reason : LeftReason)
  | lineFault (kind : LineFault)
  | postDropped (source : Addr)
  | postAbandoned (tag : Byte)
  | lostNotices (count : Nat)
  | taken (key : Byte) (holder : Addr) (gen : Byte)
  | freed (key : Byte) (former : Addr) (reason : FreedReason)
  | peerJoined (station : Addr) (joining : Bool)
  | peerSilent (station : Addr) (frames : Nat)
  | peerLeft (station : Addr) (frames : Nat)
  | postSent (tag : Byte)
  deriving DecidableEq, Repr

/-- The Counter Bank, in the order of R178. -/
structure Counters where
  framesOk : BitVec 16
  framesOwn : BitVec 16
  crcFail : BitVec 16
  broken : BitVec 16
  malformed : BitVec 16
  unknownKind : BitVec 16
  noisyFrames : BitVec 16
  longDominant : BitVec 16
  yields : BitVec 16
  driveFaults : BitVec 16
  ignored : BitVec 16
  noticesLost : BitVec 16
  postsDropped : BitVec 16
  strayChars : BitVec 16
  portErrors : BitVec 16
  commandsRefused : BitVec 16
  deriving DecidableEq, Repr

/-- The transactions that are not COMMAND (R167). -/
inductive Transaction where
  | status
  | fetchResult
  | fetchNotice
  | fetchMail
  | unknown (code : Byte)
  deriving DecidableEq, Repr

/-- The transaction state of the Local Port (chapter 11, R166, R167). -/
inductive PortState where
  /-- SEL_N is high: no transaction. -/
  | none
  /-- SEL_N is low and no code but COMMAND has been taken; the status bytes of the fall of SEL_N. -/
  | selected (status0 status1 : Byte)
  /-- In a transaction: the status bytes, the response taken with the code, and whether that response is a
  record of a store (not the NONE record). -/
  | running (tx : Transaction) (status0 status1 : Byte) (response : List Byte) (offered : Bool)
  deriving DecidableEq, Repr

/-! ### The state -/

/-- The machine. The grouping and the rule behind each field are in INVENTORY.md. -/
structure State where
  /-- RESET_N is low (R146). -/
  inReset : Bool
  ownAddr : Addr
  rate : BitVec 2
  station : StationState
  config : Option Configuration
  addrInUse : Bool
  leaveLimit : Option Time
  receiver : Receiver
  monitor : Monitor
  /-- The dominant run in samples; absent while RXD reads recessive (R108). -/
  run : Option Nat
  longMark : Bool
  lastSource : Addr
  decoder : Decoder
  /-- The Claim Table: 16 places, `none` for VACANT (R1). -/
  table : List (Option Entry)
  /-- The Roster: 32 places numbered by address (R61, R78), `none` for ABSENT. -/
  roster : List (Option Peer)
  own : OwnEntry
  urgent : List UrgentOrder
  normal : List NormalOrder
  access : Access
  driveFaults : Nat
  mailbox : List Mail
  port : PortState
  /-- The Result Slot: the bytes of the record it holds (R170, R182). -/
  result : Option (List Byte)
  notices : List Notice
  counters : Counters
  refused : Bool
  portError : Bool
  /-- The bytes the part sent in the last transaction (the model's own field, log 7). -/
  sdo : List Byte
  /-- The commands that wait, first in, first out. -/
  pending : List Instr
  /-- What the coming sample points bring from outside; empty means released (log 3). -/
  line : List LineSample
  /-- What the free values of log 5 and log 6 are applied to (the model's own field). -/
  freeCount : Nat
  deriving DecidableEq, Repr

/-- No command stops this machine with a fault: the manual gives every row an effect in every state
(section Faults of INVENTORY.md). The type has no constructor, so `step` cannot answer one. -/
inductive Fault where
  deriving DecidableEq, Repr

/-- Why a step has no meaning. -/
inductive Refusal where
  /-- Raised by `exec` for a row that has no meaning yet; no row is left in that condition. Safe. -/
  | notModelled (mnemonic : String)
  deriving DecidableEq, Repr

/-- Every counter at 0 (R146). -/
def Counters.zero : Counters :=
  { framesOk := 0, framesOwn := 0, crcFail := 0, broken := 0, malformed := 0, unknownKind := 0
    noisyFrames := 0, longDominant := 0, yields := 0, driveFaults := 0, ignored := 0, noticesLost := 0
    postsDropped := 0, strayChars := 0, portErrors := 0, commandsRefused := 0 }

/-- The own roster entry while it is ABSENT (R62). -/
def OwnEntry.absent : OwnEntry :=
  { present := false, joining := false, silence := none, presence := none, listen := none }

/-- Every block in its initial state, with the straps sampled as given (the table of R146). -/
def State.initial (addr : Addr) (rate : BitVec 2) : State :=
  { inReset := false, ownAddr := addr, rate := rate
    station := .unconfigured, config := none, addrInUse := false, leaveLimit := none
    receiver := .recovering, monitor := .settling 0, run := none, longMark := false, lastSource := 0
    decoder := .waiting, table := List.replicate 16 none
    roster := List.replicate 32 none, own := OwnEntry.absent
    urgent := [], normal := [], access := .off, driveFaults := 0, mailbox := []
    port := .none, result := none, notices := [], counters := Counters.zero
    refused := false, portError := false, sdo := []
    pending := [], line := [], freeCount := 0 }

/-- The machine right after the release of RESET_N (R146), with the straps of log 1. -/
def State.reset : State := State.initial Config.resetAddr Config.resetRate

end Sys2Proof.Machine
end

