-- ==== Sys2Proof/Machine/Bits.lean ====
section
/-! DEFINITION. Helpers below the blocks: times, the check byte, majority, the order of keys, codes. -/

namespace Sys2Proof.Machine

/-! ### Times -/

/-- `n` milliseconds in cycles of the 16 MHz REFCLK. -/
def ms (n : Nat) : Time := n * 16000

/-- A time rounded up to a whole millisecond, as QUERY reports it (R14). -/
def msRoundedUp (t : Time) : Nat := (t + 15999) / 16000

/-- One eighth of a bit time at the strapped rate, in REFCLK cycles (R99; the rates of 00_scope). -/
def sampleTime (rate : BitVec 2) : Time :=
  match rate.toNat with
  | 0 => 32
  | 1 => 16
  | 2 => 8
  | _ => 4

/-- The frame gap G, in bit times (R129). -/
def frameGap : Nat := 12

/-- The idle age at which the line is open, G + 31 (R129). -/
def openAge : Nat := 43

/-! ### The check byte -/

/-- One bit of the CRC-8 of R82: shift left, and add x^2 + x + 1 when the bit shifted out is 1. -/
def crcBit (r : Byte) : Byte := if r.msb then (r <<< 1) ^^^ 0x07 else r <<< 1

/-- A data byte fed into the register, most significant bit first (R82). -/
def crcByte (r b : Byte) : Byte :=
  crcBit (crcBit (crcBit (crcBit (crcBit (crcBit (crcBit (crcBit (r ^^^ b))))))))

/-- The CRC-8 of R82 over the bytes, in order, from 0xFF. -/
def crc8 (bytes : List Byte) : Byte := bytes.foldl crcByte 0xFF

/-! ### Samples and bits -/

/-- The value most of the samples read; of three samples, the majority (R100, R101). -/
def majority (samples : List Level) : Level :=
  if samples.count .recessive < samples.count .dominant then .dominant else .recessive

/-- The samples of a bit do not all agree (R100, R101). -/
def disagree (samples : List Level) : Bool :=
  samples.contains .dominant && samples.contains .recessive

/-- A bit as the line carries it: 0 dominant, 1 recessive (R97). -/
def levelOfBit (b : Bool) : Level := if b then .recessive else .dominant

/-- A level as a bit (R97). -/
def Level.bit (l : Level) : Bool := l == .recessive

/-- The byte whose bits, least significant first, are `bits` (R98). -/
def byteOfBits (bits : List Bool) : Byte :=
  BitVec.ofNat 8 (bits.foldr (fun b n => 2 * n + b.toNat) 0)

/-- A yes or no as a byte. -/
def boolByte (b : Bool) : Byte := if b then 1 else 0

/-- A number as a byte of a record. -/
def natByte (n : Nat) : Byte := BitVec.ofNat 8 n

/-- An address as a byte. -/
def addrByte (a : Addr) : Byte := a.setWidth 8

/-- The address a byte of value 0..31 names. -/
def byteAddr (b : Byte) : Addr := b.setWidth 5

/-! ### The order of keys -/

/-- `k` put into an ascending list of keys. -/
def insertKey (k : Byte) : List Byte → List Byte
  | [] => [k]
  | x :: xs => if k.toNat ≤ x.toNat then k :: x :: xs else x :: insertKey k xs

/-- The keys in ascending order. -/
def sortKeys : List Byte → List Byte
  | [] => []
  | k :: ks => insertKey k (sortKeys ks)

/-- The keys of the non-vacant entries, in the order of the entry numbers. -/
def tableKeys : List (Option Entry) → List Byte
  | [] => []
  | some e :: t => e.key :: tableKeys t
  | none :: t => tableKeys t

/-- The keys the station watches, in ascending order, the order in which rules over many entries take them
(R48, R50, R54, R134, R151, R154). -/
def State.keysAscending (s : State) : List Byte := sortKeys (tableKeys s.table)

/-- An operation taken for each key in turn. -/
def overKeys (f : Byte → State → State) (ks : List Byte) (s : State) : State :=
  ks.foldl (fun t k => f k t) s

/-! ### Codes of 12.2 to 12.5 -/

/-- The station state as the first status byte carries it (R168). -/
def StationState.code : StationState → Byte
  | .unconfigured => 0
  | .listening => 1
  | .active => 2
  | .leaving => 3
  | .offline => 4
  | .mute => 5

/-- The line monitor state as the second status byte carries it (R168). -/
def Monitor.code : Monitor → Byte
  | .settling _ => 0
  | .idle _ _ => 1
  | .busy => 2
  | .stuck _ => 3

/-- The entry state codes of 12.4. -/
def Claim.code : Claim → Byte
  | .free => 0
  | .peerAsking _ _ => 1
  | .asking _ => 2
  | .mine => 3
  | .theirs _ => 4

/-- The want codes of 12.4. -/
def Want.code : Want → Byte
  | .none => 0
  | .once => 1
  | .wait => 2

/-- The reason codes REFUSED and LOST share (R183). -/
def EndReason.code : EndReason → Byte
  | .peerFirst => 1
  | .peerHeld => 2
  | .silent => 3
  | .muted => 4
  | .split => 5

/-- The reason codes of FREED (R183). -/
def FreedReason.code : FreedReason → Byte
  | .released => 1
  | .orphaned => 2
  | .reconciled => 3

/-- The reason codes of LEFT (R183). -/
def LeftReason.code : LeftReason → Byte
  | .heard => 1
  | .unheard => 2

/-- The kinds of LINE_FAULT (R183). -/
def LineFault.code : LineFault → Byte
  | .stuckBegin => 1
  | .stuckEnd => 2
  | .clash => 3
  | .drive => 4

/-- A notice record as the port returns it: kind, a, b, c (R174, R183). -/
def Notice.bytes : Notice → List Byte
  | .granted k g => [0x01, k, g, 0]
  | .refused k r p => [0x02, k, r.code, addrByte p]
  | .lost k r p => [0x03, k, r.code, addrByte p]
  | .reasserted k g => [0x04, k, g, 0]
  | .joined n => [0x05, natByte n, 0, 0]
  | .left r => [0x06, r.code, 0, 0]
  | .lineFault f => [0x07, f.code, 0, 0]
  | .postDropped p => [0x08, addrByte p, 0, 0]
  | .postAbandoned t => [0x09, t, 0, 0]
  | .lostNotices n => [0x0A, natByte n, 0, 0]
  | .taken k h g => [0x0B, k, addrByte h, g]
  | .freed k p r => [0x0C, k, addrByte p, r.code]
  | .peerJoined p j => [0x0D, addrByte p, boolByte j, 0]
  | .peerSilent p n => [0x0E, addrByte p, natByte n, 0]
  | .peerLeft p n => [0x0F, addrByte p, natByte n, 0]
  | .postSent t => [0x10, t, 0, 0]

/-- The NONE record of an empty Notice Queue (R183). -/
def noneNotice : List Byte := [0, 0, 0, 0]

/-- A mail record: source, flags, length, payload (R183). -/
def Mail.bytes (m : Mail) : List Byte :=
  [addrByte m.source, boolByte m.broadcast, natByte m.payload.length] ++ m.payload

/-- The record of an empty Mailbox (R183). -/
def noneMail : List Byte := [0, 0, 0]

/-- The NONE record of an empty Result Slot (R182). -/
def noneResult : List Byte := [0]

end Sys2Proof.Machine
end

