-- ==== Sys2Proof/Machine/Operands.lean ====
section
/-! DEFINITION. The layouts of chapter 12: frames as data bytes and back, the bits a character is driven
with, result records and their codes, the snapshot of QUERY and the bitmaps of ROSTER. -/

namespace Sys2Proof.Machine

/-! ### Frames (12.1) -/

/-- The kind a body belongs to (R79). -/
def Body.kind : Body → Kind
  | .presence _ _ _ => .presence
  | .ask _ => .ask
  | .object _ _ _ _ => .object
  | .hold _ _ => .hold
  | .free _ _ _ => .free
  | .post _ _ => .post

/-- The kind codes of R79. -/
def Kind.code : Kind → Nat
  | .presence => 0
  | .ask => 1
  | .object => 2
  | .hold => 3
  | .free => 4
  | .post => 5

/-- The kind that bits 0 to 2 of character 0 name, if it is a used one (R79, R181). -/
def kindOf (c : Byte) : Option Kind :=
  match (c &&& 0x07).toNat with
  | 0 => some .presence
  | 1 => some .ask
  | 2 => some .object
  | 3 => some .hold
  | 4 => some .free
  | 5 => some .post
  | _ => none

/-- The source address in bits 3 to 7 of character 0 (12.1). -/
def sourceOf (c : Byte) : Addr := (c >>> 3).setWidth 5

/-- The pairs of a PRESENCE as bytes, key then gen (R181). -/
def pairBytes : List (Byte × Byte) → List Byte
  | [] => []
  | (k, g) :: ps => k :: g :: pairBytes ps

/-- Bytes read as pairs of key and gen. -/
def readPairs : List Byte → List (Byte × Byte)
  | k :: g :: bs => (k, g) :: readPairs bs
  | _ => []

/-- The flags and count byte of a PRESENCE (12.1). -/
def presenceFlags (joining leaving : Bool) (count : Nat) : Byte :=
  natByte (count + 32 * joining.toNat + 64 * leaving.toNat)

/-- The body characters of a frame (R79, 12.1). -/
def Body.chars : Body → List Byte
  | .presence j l pairs => presenceFlags j l pairs.length :: pairBytes pairs
  | .ask k => [k]
  | .object k p r g => [k, p, r, g]
  | .hold k g => [k, g]
  | .free k g w => [k, g, boolByte w]
  | .post d payload => d :: natByte payload.length :: payload

/-- Every character of a frame before its check byte, character 0 first (R79, R133). -/
def Frame.chars (f : Frame) : List Byte :=
  natByte (f.body.kind.code + 8 * f.source.toNat) :: f.body.chars

/-- The data bytes of a frame, the check byte last (R82, R133). -/
def Frame.encode (f : Frame) : List Byte := f.chars ++ [crc8 f.chars]

/-- The body that the characters between character 0 and the check byte spell (12.1). The bits that carry
no field are not read (R181). -/
def readBody : Kind → List Byte → Option Body
  | .presence, c :: bs => some (.presence (c.getLsbD 5) (c.getLsbD 6) (readPairs bs))
  | .ask, [k] => some (.ask k)
  | .object, [k, p, r, g] => some (.object k p r g)
  | .hold, [k, g] => some (.hold k g)
  | .free, [k, g, fl] => some (.free k g (fl.getLsbD 0))
  | .post, d :: _ :: payload => some (.post d payload)
  | _, _ => none

/-- A key is 1..254 (R1, R10, R88). -/
def validKey (k : Byte) : Bool := k != 0 && k != 255

/-- The fields of a frame are in range (step 2 of R88, and the length fields of R85). -/
def Frame.inRange (f : Frame) : Bool :=
  f.source != 0 &&
  match f.body with
  | .presence _ _ pairs => pairs.length ≤ 16 && pairs.all fun p => validKey p.1
  | .ask k => validKey k
  | .object k p r _ => validKey k && p ≤ 31 && (r == 1 || r == 2)
  | .hold k _ => validKey k
  | .free k _ _ => validKey k
  | .post d payload => d ≤ 31 && 1 ≤ payload.length && payload.length ≤ 16

/-- The level driven in bit `i` of a frame, counted from the start bit of character 0; recessive past its
end (R98, R136). -/
def Frame.levelAt (f : Frame) (i : Nat) : Level :=
  match f.encode[i / 11]? with
  | none => .recessive
  | some b =>
    if i % 11 = 0 then .dominant
    else if i % 11 ≤ 8 then levelOfBit (b.getLsbD (i % 11 - 1))
    else if i % 11 = 9 then (if i / 11 = 0 then .recessive else .dominant)
    else .recessive

/-! ### Result records (12.4) -/

/-- The result codes of 12.4 that a record carries. -/
inductive ResultCode where
  | done
  | queuedWait
  | alreadyHeld
  | heldByPeer
  | busyKey
  | tableFull
  | badKey
  | notHeld
  | notWatched
  | queueFull
  | wrongState
  | badConfig
  | noAddress
  | addressInUse
  | badLength
  | unknownCommand
  deriving DecidableEq, Repr

/-- The byte of a result code (12.4). -/
def ResultCode.byte : ResultCode → Byte
  | .done => 0x01
  | .queuedWait => 0x02
  | .alreadyHeld => 0x03
  | .heldByPeer => 0x04
  | .busyKey => 0x05
  | .tableFull => 0x06
  | .badKey => 0x07
  | .notHeld => 0x08
  | .notWatched => 0x09
  | .queueFull => 0x0A
  | .wrongState => 0x0B
  | .badConfig => 0x0C
  | .noAddress => 0x0D
  | .addressInUse => 0x0E
  | .badLength => 0x0F
  | .unknownCommand => 0x10

/-- A result record before its check byte: code, length, command code, station state, fields (R182). -/
def resultBody (code : ResultCode) (command : Byte) (station : StationState) (fields : List Byte) :
    List Byte :=
  [code.byte, natByte (fields.length + 5), command, station.code] ++ fields

/-- A whole result record (R182). -/
def resultRecord (code : ResultCode) (command : Byte) (station : StationState) (fields : List Byte) :
    List Byte :=
  resultBody code command station fields ++ [crc8 (resultBody code command station fields)]

/-- A number of two bytes, most significant first (chapter 12). -/
def twoBytes (n : Nat) : List Byte := [natByte (n / 256), natByte n]

/-- The codes of the commands (12.3). -/
def cmdEstablish : Byte := 0x01
/-- 12.3. -/
def cmdAsk : Byte := 0x02
/-- 12.3. -/
def cmdRelease : Byte := 0x03
/-- 12.3. -/
def cmdWatch : Byte := 0x04
/-- 12.3. -/
def cmdUnwatch : Byte := 0x05
/-- 12.3. -/
def cmdQuery : Byte := 0x06
/-- 12.3. -/
def cmdRoster : Byte := 0x07
/-- 12.3. -/
def cmdPost : Byte := 0x08
/-- 12.3. -/
def cmdLeave : Byte := 0x09
/-- 12.3. -/
def cmdRestart : Byte := 0x0A
/-- 12.3. -/
def cmdCounters : Byte := 0x0B

/-- Eight places of a bitmap as a byte, the lowest place in bit 0 (12.4). -/
def bitmapByte (places : List Bool) : Byte := byteOfBits places

/-- A bitmap of 32 places as four bytes, byte 0 first (12.4). -/
def bitmapBytes (places : List Bool) : List Byte :=
  [bitmapByte (places.take 8), bitmapByte ((places.drop 8).take 8),
   bitmapByte ((places.drop 16).take 8), bitmapByte ((places.drop 24).take 8)]

/-- The sixteen counters as COUNTERS returns them (R178, 12.4). -/
def Counters.bytes (c : Counters) : List Byte :=
  [c.framesOk, c.framesOwn, c.crcFail, c.broken, c.malformed, c.unknownKind, c.noisyFrames, c.longDominant,
   c.yields, c.driveFaults, c.ignored, c.noticesLost, c.postsDropped, c.strayChars, c.portErrors,
   c.commandsRefused].flatMap fun v => twoBytes v.toNat

end Sys2Proof.Machine
end

