-- ==== Sys2Proof/Machine/Flags.lean ====
section
/-! DEFINITION. Flags, counters and what is read from the state as a level or a status: the Counter Bank,
the status bytes, the sticky flags, ATTN_N, TXD, rank, the silence timeout. -/

namespace Sys2Proof.Machine

/-! ### The Counter Bank -/

/-- The counters by name (R178). -/
inductive Counter where
  | framesOk
  | framesOwn
  | crcFail
  | broken
  | malformed
  | unknownKind
  | noisyFrames
  | longDominant
  | yields
  | driveFaults
  | ignored
  | noticesLost
  | postsDropped
  | strayChars
  | portErrors
  | commandsRefused
  deriving DecidableEq, Repr

/-- One more, staying at 65535 (R178). -/
def countUp (v : BitVec 16) : BitVec 16 := if v = 0xFFFF then v else v + 1

/-- The value of a counter. -/
def Counters.get (c : Counters) : Counter → BitVec 16
  | .framesOk => c.framesOk
  | .framesOwn => c.framesOwn
  | .crcFail => c.crcFail
  | .broken => c.broken
  | .malformed => c.malformed
  | .unknownKind => c.unknownKind
  | .noisyFrames => c.noisyFrames
  | .longDominant => c.longDominant
  | .yields => c.yields
  | .driveFaults => c.driveFaults
  | .ignored => c.ignored
  | .noticesLost => c.noticesLost
  | .postsDropped => c.postsDropped
  | .strayChars => c.strayChars
  | .portErrors => c.portErrors
  | .commandsRefused => c.commandsRefused

/-- One event counted (R178). -/
def Counters.bump (c : Counters) : Counter → Counters
  | .framesOk => { c with framesOk := countUp c.framesOk }
  | .framesOwn => { c with framesOwn := countUp c.framesOwn }
  | .crcFail => { c with crcFail := countUp c.crcFail }
  | .broken => { c with broken := countUp c.broken }
  | .malformed => { c with malformed := countUp c.malformed }
  | .unknownKind => { c with unknownKind := countUp c.unknownKind }
  | .noisyFrames => { c with noisyFrames := countUp c.noisyFrames }
  | .longDominant => { c with longDominant := countUp c.longDominant }
  | .yields => { c with yields := countUp c.yields }
  | .driveFaults => { c with driveFaults := countUp c.driveFaults }
  | .ignored => { c with ignored := countUp c.ignored }
  | .noticesLost => { c with noticesLost := countUp c.noticesLost }
  | .postsDropped => { c with postsDropped := countUp c.postsDropped }
  | .strayChars => { c with strayChars := countUp c.strayChars }
  | .portErrors => { c with portErrors := countUp c.portErrors }
  | .commandsRefused => { c with commandsRefused := countUp c.commandsRefused }

/-- The state with one event counted. -/
def count (c : Counter) (s : State) : State := { s with counters := s.counters.bump c }

/-! ### Status, attention and drive -/

/-- Status byte 0 (R168, 12.2). -/
def State.status0 (s : State) : Byte :=
  natByte (128 * s.result.isSome.toNat + 64 * (!s.notices.isEmpty).toNat + 32 * (!s.mailbox.isEmpty).toNat
    + 16 * s.refused.toNat + 8 * s.portError.toNat + s.station.code.toNat)

/-- Status byte 1 (R168, 12.2). -/
def State.status1 (s : State) : Byte := natByte (64 * s.monitor.code.toNat + s.notices.length)

/-- A sticky flag after the rise of SEL_N: cleared when status byte 0 showed it set and both status bytes
were clocked, unless it was set again since the fall of SEL_N (R169). -/
def stickyAfter (flag shown bothClocked setAgain : Bool) : Bool :=
  flag && (setAgain || !(shown && bothClocked))

/-- ATTN_N is driven low (R177). -/
def State.attention (s : State) : Bool :=
  !s.inReset && (s.result.isSome || !s.notices.isEmpty || !s.mailbox.isEmpty)

/-- SDO is driven and not at high impedance (R146, R166). -/
def State.sdoDriven (s : State) : Bool :=
  !s.inReset && match s.port with
    | .none => false
    | _ => true

/-- The level this station puts on the line at this sample: TXD low is dominant (R97, R136). -/
def State.ownLevel (s : State) : Level :=
  match s.access with
  | .driving a => a.frame.levelAt (a.driven / 8)
  | _ => .recessive

/-- The level RXD reads at this sample: the wired AND of all stations (R97, log 3). -/
def State.lineLevel (s : State) : Level :=
  match s.line.head? with
  | some .held => .dominant
  | some .cut => .recessive
  | _ => s.ownLevel

/-! ### Values computed from the configuration and the line -/

/-- S, 0 while the configuration is absent. -/
def State.silenceUnit (s : State) : Nat :=
  match s.config with
  | some c => c.silenceUnit.toNat
  | none => 0

/-- The silence timeout in force: T_s = 16·S ms after ESTABLISH, 4080 ms before it (R61, R64, R149). -/
def State.silenceTimeout (s : State) : Time :=
  match s.config with
  | some c => ms (16 * c.silenceUnit.toNat)
  | none => ms 4080

/-- T_s/2, of the silence count, the listen timer and the leave limit (R62, R74, R151). -/
def State.halfSilence (s : State) : Time := ms (8 * s.silenceUnit)

/-- T_s/4, the presence period (R70). -/
def State.presencePeriod (s : State) : Time := ms (4 * s.silenceUnit)

/-- The objection window W (R8, R149). -/
def State.windowTime (s : State) : Time :=
  match s.config with
  | some c => ms c.window.toNat
  | none => 0

/-- The peer-ask deferral, 2·W (R8). -/
def State.deferralTime (s : State) : Time :=
  match s.config with
  | some c => ms (2 * c.window.toNat)
  | none => 0

/-- The claim timers and the listen timer count (R9, R74). -/
def Monitor.timersRun : Monitor → Bool
  | .idle _ _ => true
  | .busy => true
  | _ => false

/-- The station's rank, (own − last_source − 1) mod 31 (R129). -/
def State.rank (s : State) : Nat := (s.ownAddr.toNat + 61 - s.lastSource.toNat) % 31

/-- The station's slot, G + rank (R129). -/
def State.slot (s : State) : Nat := frameGap + s.rank

/-- The states in which the lanes take orders and the Access Engine makes attempts (R126, R128). -/
def StationState.transmits : StationState → Bool
  | .listening => true
  | .active => true
  | .leaving => true
  | _ => false

/-- A peer station's address is the own address. An own address of 0 is no address (R145, log 11). -/
def State.isOwn (s : State) (a : Addr) : Bool := s.ownAddr != 0 && a == s.ownAddr

/-- The attempt slot (R128). -/
def Access.attempt : Access → Option Attempt
  | .driving a => some a
  | _ => none

end Sys2Proof.Machine
end

