-- ==== Sys2Proof/Machine/Ops.lean ====
section
/-! DEFINITION. The named operations over the stores: notices, the Claim Table, the lanes, the Roster, the
attempt slot and the Result Slot, and how the Access Engine's condition follows the lanes. -/

namespace Sys2Proof.Machine

/-! ### Notices (11.4) -/

/-- The place of an optional kind in the notice mask (12.3); `none` for a mandatory kind. -/
def Notice.maskPlace : Notice → Option Nat
  | .taken _ _ _ => some 0
  | .freed _ _ _ => some 1
  | .peerJoined _ _ => some 2
  | .peerSilent _ _ => some 3
  | .peerLeft _ _ => some 4
  | .postSent _ => some 5
  | _ => none

/-- The notice is produced under this configuration: a mandatory kind always, an optional kind when its
place is set (R173). -/
def Notice.admitted (n : Notice) (config : Option Configuration) : Bool :=
  match n.maskPlace with
  | none => true
  | some i => match config with
    | some c => c.mask.getLsbD i
    | none => false

/-- A LOST_NOTICES record. -/
def Notice.isLost : Notice → Bool
  | .lostNotices _ => true
  | _ => false

/-- The LOST_NOTICES record counts one more, stopping at 255 (R175). -/
def Notice.oneMoreLost : Notice → Notice
  | .lostNotices n => .lostNotices (min 255 (n + 1))
  | other => other

/-- A produced notice joins the queue, or is discarded and recorded (R175). -/
def appendNotice (n : Notice) (s : State) : State :=
  if s.notices.any Notice.isLost then
    { s with notices := s.notices.map Notice.oneMoreLost, counters := s.counters.bump .noticesLost }
  else if s.notices.length < 31 then { s with notices := s.notices ++ [n] }
  else
    { s with notices := s.notices ++ [.lostNotices 1], counters := s.counters.bump .noticesLost }

/-- A block's event gives rise to a notice: it is produced unless the mask excludes its kind (R173). -/
def produce (n : Notice) (s : State) : State :=
  if n.admitted s.config then appendNotice n s else s

/-! ### The Claim Table (chapter 1) -/

/-- The entry that carries the key (R1). -/
def findEntry (k : Byte) : List (Option Entry) → Option Entry
  | [] => none
  | some e :: t => if e.key = k then some e else findEntry k t
  | none :: t => findEntry k t

/-- The number of the entry that carries the key (R1). -/
def findNumber (k : Byte) : List (Option Entry) → Option Nat
  | [] => none
  | some e :: t => if e.key = k then some 0 else (findNumber k t).map (· + 1)
  | none :: t => (findNumber k t).map (· + 1)

/-- The entry for a key. -/
def State.entry (s : State) (k : Byte) : Option Entry := findEntry k s.table

/-- The entry of the key changed in place (R1). -/
def modifyEntry (k : Byte) (f : Entry → Entry) (t : List (Option Entry)) : List (Option Entry) :=
  t.map fun place => place.map fun e => if e.key = k then f e else e

/-- The entry of the key vacated (R13). -/
def vacateEntry (k : Byte) (t : List (Option Entry)) : List (Option Entry) :=
  t.map fun place => place.filter fun e => e.key != k

/-- The lowest-numbered VACANT place taken (R11). -/
def allocate (e : Entry) : List (Option Entry) → Option (List (Option Entry))
  | [] => none
  | none :: t => some (some e :: t)
  | some x :: t => (allocate e t).map (some x :: ·)

/-- A newly allocated entry (R11). -/
def newEntry (k : Byte) : Entry := { key := k, want := .none, gen := 0, claim := .free }

/-- The state with the key's entry changed. -/
def setEntry (k : Byte) (f : Entry → Entry) (s : State) : State :=
  { s with table := modifyEntry k f s.table }

/-- The entry moved to a state: the fields the new state does not carry go with the old one (R2). -/
def setClaim (k : Byte) (c : Claim) (s : State) : State := setEntry k (fun e => { e with claim := c }) s

/-- The entry moved to a state with a generation taken from a frame (R7). -/
def setClaimGen (k : Byte) (c : Claim) (g : Byte) (s : State) : State :=
  setEntry k (fun e => { e with claim := c, gen := g }) s

/-- The want field set (R5). -/
def setWant (k : Byte) (w : Want) (s : State) : State := setEntry k (fun e => { e with want := w }) s

/-! ### The urgent lane (7.2) -/

/-- The key of an urgent order. -/
def UrgentOrder.key : UrgentOrder → Byte
  | .object k => k
  | .hold k => k
  | .free k _ => k

/-- A state order (HOLD or FREE) for the key (R115). -/
def UrgentOrder.isStateOf (k : Byte) : UrgentOrder → Bool
  | .object _ => false
  | .hold j => j == k
  | .free j _ => j == k

/-- The OBJECT order for the key. -/
def UrgentOrder.isObjectOf (k : Byte) : UrgentOrder → Bool
  | .object j => j == k
  | _ => false

/-- The HOLD order for the key. -/
def UrgentOrder.isHoldOf (k : Byte) : UrgentOrder → Bool
  | .hold j => j == k
  | _ => false

/-- A state order that meets a queued one for the same key takes over its place (the table of R117). -/
def mergeState (queued request : UrgentOrder) : UrgentOrder :=
  match queued, request with
  | .free _ old, .free k new => .free k (old || new)
  | _, r => r

/-- A state order request taken by the lane (R117). -/
def placeState (o : UrgentOrder) : List UrgentOrder → List UrgentOrder
  | [] => [o]
  | x :: xs => if x.isStateOf o.key then mergeState x o :: xs else x :: placeState o xs

/-- A HOLD or FREE order is requested (R117); states without transmission drop it (R126). -/
def requestState (o : UrgentOrder) (s : State) : State :=
  if s.station.transmits then { s with urgent := placeState o s.urgent } else s

/-- An OBJECT order is requested (R118, R126). -/
def requestObject (k : Byte) (s : State) : State :=
  if s.station.transmits && !s.urgent.any (UrgentOrder.isObjectOf k) then
    { s with urgent := s.urgent ++ [.object k] }
  else s

/-- The HOLD order for the key is removed (R123). -/
def removeHold (k : Byte) (s : State) : State :=
  { s with urgent := s.urgent.filter fun o => !o.isHoldOf k }

/-! ### The normal lane (7.3) -/

/-- The ASK order for the key. -/
def NormalOrder.isAskOf (k : Byte) : NormalOrder → Bool
  | .ask j => j == k
  | _ => false

/-- A PRESENCE order. -/
def NormalOrder.isPresence : NormalOrder → Bool
  | .presence _ => true
  | _ => false

/-- A POST order. -/
def NormalOrder.isPost : NormalOrder → Bool
  | .post _ => true
  | _ => false

/-- The largest size of the normal lane (R119). -/
def normalCapacity : Nat := 21

/-- An ASK order is requested: refused (`none`) when the lane is full (R120), dropped in a state without
transmission (R126). -/
def requestAsk (k : Byte) (s : State) : Option State :=
  if !s.station.transmits then some s
  else if s.normal.length < normalCapacity then some { s with normal := s.normal ++ [.ask k] }
  else none

/-- The ASK order for the key is removed (R123). -/
def removeAsk (k : Byte) (s : State) : State :=
  { s with normal := s.normal.filter fun o => !o.isAskOf k }

/-- The order the attempt slot carries. -/
def State.slotOrder (s : State) : Option Order := s.access.attempt.map (·.order)

/-- The attempt slot holds a PRESENCE. -/
def State.slotPresence (s : State) : Bool :=
  match s.slotOrder with
  | some (.normal (.presence _)) => true
  | _ => false

/-- The post in the attempt slot. -/
def State.slotPost (s : State) : Option Post :=
  match s.slotOrder with
  | some (.normal (.post p)) => some p
  | _ => none

/-- The attempt slot holds the ASK frame for the key. -/
def State.slotAsk (s : State) (k : Byte) : Bool :=
  match s.slotOrder with
  | some (.normal (.ask j)) => j == k
  | _ => false

/-- An ordinary PRESENCE is requested: dropped while a PRESENCE is pending (R121, R126). -/
def requestPresence (s : State) : State :=
  if s.station.transmits && !s.normal.any NormalOrder.isPresence && !s.slotPresence then
    { s with normal := s.normal ++ [.presence false] }
  else s

/-- The leaving PRESENCE is requested: it removes a queued ordinary one and joins the tail (R121). -/
def requestLeaving (s : State) : State :=
  if s.station.transmits then
    { s with normal := (s.normal.filter fun o => !o.isPresence) ++ [.presence true] }
  else s

/-- The POST orders of a lane, head first. -/
def lanePosts : List NormalOrder → List Post
  | [] => []
  | .post p :: t => p :: lanePosts t
  | _ :: t => lanePosts t

/-- The pending-post count (R122, R158). -/
def State.pendingPosts (s : State) : Nat :=
  (lanePosts s.normal).length + s.slotPost.isSome.toNat

/-! ### The Access Engine's condition (R128, R130) -/

/-- Both lanes are empty. -/
def State.noOrders (s : State) : Bool := s.urgent.isEmpty && s.normal.isEmpty

/-- The condition of a station that becomes ready now (the table of R130). -/
def State.readyCondition (s : State) : Access :=
  match s.monitor with
  | .idle _ age => if age < s.slot then .slotWait else .openWait
  | _ => .slotWait

/-- The condition follows the lanes: EMPTY when both are empty, and the condition of R130 when an order
joins empty lanes (R128). OFF and DRIVING stay. -/
def refreshAccess (s : State) : State :=
  match s.access with
  | .empty => if s.noOrders then s else { s with access := s.readyCondition }
  | .slotWait => if s.noOrders then { s with access := .empty } else s
  | .openWait => if s.noOrders then { s with access := .empty } else s
  | _ => s

/-- The line went busy: a waiting station is back in SLOT_WAIT (R131). -/
def Access.lineBusy : Access → Access
  | .openWait => .slotWait
  | a => a

/-! ### The Roster (4.1) -/

/-- The Roster entry of a peer (R61). -/
def State.peer (s : State) (p : Addr) : Option Peer := (s.roster[p.toNat]?).join

/-- The state with a peer's Roster entry set. -/
def setPeer (p : Addr) (e : Option Peer) (s : State) : State :=
  { s with roster := s.roster.set p.toNat e }

/-! ### Results -/

/-- A result placed in the Result Slot, with the station state after the command (R170, R182). -/
def answer (code : ResultCode) (command : Byte) (fields : List Byte) (s : State) : State :=
  { s with result := some (resultRecord code command s.station fields) }

/-! ### Steps -/

/-- An event taken by the blocks, and the Access Engine's condition after it. -/
def settled (f : State → State) (s : State) : State := refreshAccess (f s)

/-- A row taken as one indivisible step. While RESET_N is low no block takes anything (R146, log 8). -/
def live (f : State → State) (s : State) : Host.Outcome State Fault Refusal :=
  .next (if s.inReset then s else settled f s)

/-! ### Events of one moment (log 5) -/

/-- `x` put at place `i` of a list, the places counted round. -/
def putAt {α : Type} (i : Nat) (x : α) (l : List α) : List α :=
  l.take (i % (l.length + 1)) ++ x :: l.drop (i % (l.length + 1))

/-- The events of one moment in an order that a free value decides (log 5). -/
def freeOrder {α : Type} (n : Nat) : List α → List α
  | [] => []
  | [x] => [x]
  | x :: y :: rest => putAt (Config.takenAt (n + rest.length)) x (freeOrder n (y :: rest))

/-- A free value is used up where two or more events fall together (log 5). -/
def useFree (n : Nat) (s : State) : State :=
  if 2 ≤ n then { s with freeCount := s.freeCount + n } else s

end Sys2Proof.Machine
end

