-- ==== Sys2Proof/Machine/Claims.lean ====
section
/-! DEFINITION. The Claim Engine: what peers' frames, the claim timers, orphan release, self-expiry and the
ends of the station's life do to the entries (chapters 1 to 3). -/

namespace Sys2Proof.Machine

/-! ### Asks and waiting asks -/

/-- An ask starts on an entry: ASKING with ask_sent no, its ASK order at the tail of the normal lane in
ACTIVE, held in LISTENING (R18, R20, R37). `none` when the lane refuses the order (R120). -/
def startAsk (k : Byte) (s : State) : Option State :=
  let s := setClaim k (.asking none) s
  if s.station = .active then requestAsk k s else some s

/-- A waiting ask starts again on an entry that has just become FREE (R37). An order the lane refuses
leaves the ask held; R119 says that this does not arise. -/
def restartAsk (k : Byte) (s : State) : State := (startAsk k s).getD (setClaim k (.asking none) s)

/-- The entry becomes FREE by a rule of the line; with want WAIT its waiting ask starts at once (R5, R37). -/
def becomeFree (k : Byte) (s : State) : State :=
  let s := setClaim k .free s
  match s.entry k with
  | some e => if e.want = .wait then restartAsk k s else s
  | none => s

/-- An ask with want ONCE that a peer ends: REFUSED, and want NONE; want WAIT stays (R26, R29, R35). -/
def refuseOnce (k : Byte) (w : Want) (reason : EndReason) (p : Addr) (s : State) : State :=
  if w = .once then setWant k .none (produce (.refused k reason p) s) else s

/-- The entry becomes PEER_ASKING with its deferral started at 2·W (R8, R25). -/
def deferTo (k : Byte) (p : Addr) (s : State) : State := setClaim k (.peerAsking p s.deferralTime) s

/-- The host or the station takes an ask back: the queued ASK order goes, and an ask whose ASK was sent
queues FREE with the withdrawn mark (R41, R51). -/
def withdrawAsk (k : Byte) (window : Option Time) (s : State) : State :=
  let s := setClaim k .free (removeAsk k s)
  if window.isSome then requestState (.free k true) s else s

/-! ### The split rule (3.6) -/

/-- The station keeps the key (R57). -/
def splitKeep (k : Byte) (e : Entry) (carried : Byte) (s : State) : State :=
  let g := natByte (max e.gen.toNat carried.toNat + 1)
  requestState (.hold k) (produce (.reasserted k g) (setClaimGen k .mine g s))

/-- The station gives the key up to Q (R58). `c` and `g` are what R56 gives for the evidence. -/
def splitGiveUp (k : Byte) (q : Addr) (c : Claim) (g : Byte) (s : State) : State :=
  produce (.lost k .split q) (removeHold k (setClaimGen k c g s))

/-- Evidence of Q's hold reaches a MINE entry (R56 to R58). -/
def split (k : Byte) (e : Entry) (q : Addr) (carried : Byte) (c : Claim) (g : Byte) (s : State) : State :=
  if s.ownAddr.toNat < q.toNat then splitKeep k e carried s else splitGiveUp k q c g s

/-! ### Arrivals -/

/-- A peer ASK for the key from P (R15, R25 to R27). -/
def claimAsk (p : Addr) (k : Byte) (s : State) : State :=
  match s.entry k with
  | none => s
  | some e =>
    match e.claim with
    | .free => deferTo k p s
    | .peerAsking _ _ => s
    | .asking none => refuseOnce k e.want .peerFirst p (deferTo k p (removeAsk k s))
    | .asking (some _) => requestObject k s
    | .mine => requestObject k s
    | .theirs h => if h = p then deferTo k p s else s

/-- A peer HOLD of the key from Q (R15, R34, R35, R56). `repeats` says whether a HOLD that repeats the
holder and gen of the entry produces TAKEN: it does as a HOLD frame (R34), not as a pair of a PRESENCE
(R53). -/
def claimHold (repeats : Bool) (q : Addr) (k g : Byte) (s : State) : State :=
  match s.entry k with
  | none => s
  | some e =>
    match e.claim with
    | .mine => split k e q g (.theirs q) g s
    | .asking _ => refuseOnce k e.want .peerHeld q (setClaimGen k (.theirs q) g (removeAsk k s))
    | .theirs h =>
      if h = q ∧ e.gen = g ∧ repeats = false then s
      else produce (.taken k q g) (setClaimGen k (.theirs q) g s)
    | _ => produce (.taken k q g) (setClaimGen k (.theirs q) g s)

/-- A peer OBJECT for the key that names P as precedent, with reason HELD (R28 to R30, R56). -/
def claimObjectHeld (p : Addr) (k g : Byte) (s : State) : State :=
  match s.entry k with
  | none => s
  | some e =>
    match e.claim with
    | .mine => split k e p g (.theirs p) g s
    | .asking _ => refuseOnce k e.want .peerHeld p (setClaimGen k (.theirs p) g (removeAsk k s))
    | .theirs h =>
      if h = p ∧ e.gen = g then s else produce (.taken k p g) (setClaimGen k (.theirs p) g s)
    | _ => produce (.taken k p g) (setClaimGen k (.theirs p) g s)

/-- A peer OBJECT for the key that names P as precedent, with reason EARLIER_ASK (R28 to R30, R56). -/
def claimObjectEarlier (p : Addr) (k g : Byte) (s : State) : State :=
  match s.entry k with
  | none => s
  | some e =>
    match e.claim with
    | .mine => split k e p g (.peerAsking p s.deferralTime) e.gen s
    | .asking _ => refuseOnce k e.want .peerFirst p (deferTo k p (removeAsk k s))
    | .free => deferTo k p s
    | _ => s

/-- An OBJECT arrival: applied by its precedent, and left unapplied when that is 0 (R28). -/
def claimObject (k precedent reason g : Byte) (s : State) : State :=
  if precedent = 0 then s
  else if reason = 1 then claimObjectHeld (byteAddr precedent) k g s
  else claimObjectEarlier (byteAddr precedent) k g s

/-- A peer FREE of the key from P (R15, R45 to R47). -/
def claimFree (p : Addr) (k : Byte) (withdrawn : Bool) (s : State) : State :=
  match s.entry k with
  | none => s
  | some e =>
    match e.claim with
    | .theirs h =>
      if h = p then becomeFree k (produce (.freed k p .released) s) else count .ignored s
    | .peerAsking a _ => if a = p ∧ withdrawn = true then becomeFree k s else count .ignored s
    | _ => count .ignored s

/-- The pairs of a PRESENCE from P, each as if a HOLD from P had arrived, in the order listed (R53). -/
def claimPairs (p : Addr) (pairs : List (Byte × Byte)) (s : State) : State :=
  pairs.foldl (fun t pair => claimHold false p pair.1 pair.2 t) s

/-- An entry that is THEIRS with holder P and whose key the list does not carry is freed (R54). -/
def reconcileKey (p : Addr) (pairs : List (Byte × Byte)) (k : Byte) (s : State) : State :=
  match s.entry k with
  | none => s
  | some e =>
    match e.claim with
    | .theirs h =>
      if h = p ∧ pairs.any (fun pair => pair.1 == k) = false then
        becomeFree k (produce (.freed k p .reconciled) s)
      else s
    | _ => s

/-- The reconciliation of a PRESENCE without the leaving mark (R53, R54). -/
def reconcile (p : Addr) (pairs : List (Byte × Byte)) (s : State) : State :=
  let s := claimPairs p pairs s
  overKeys (reconcileKey p pairs) s.keysAscending s

/-! ### Orphan release and self-expiry -/

/-- Orphan release of one entry (R48). -/
def orphanKey (p : Addr) (k : Byte) (s : State) : State :=
  match s.entry k with
  | none => s
  | some e =>
    match e.claim with
    | .theirs h => if h = p then becomeFree k (produce (.freed k p .orphaned) s) else s
    | .peerAsking a _ => if a = p then becomeFree k (produce (.freed k p .orphaned) s) else s
    | _ => s

/-- The orphan release for P: entries in ascending order of key (R48). -/
def orphanRelease (p : Addr) (s : State) : State := overKeys (orphanKey p) s.keysAscending s

/-- Self-expiry of one entry (R50, R51). -/
def selfExpireKey (k : Byte) (s : State) : State :=
  match s.entry k with
  | none => s
  | some e =>
    match e.claim with
    | .mine =>
      requestState (.free k false) (removeHold k (produce (.lost k .silent 0) (setClaim k .free s)))
    | .asking w => produce (.refused k .silent 0) (setWant k .none (withdrawAsk k w s))
    | _ => if e.want = .wait then produce (.refused k .silent 0) (setWant k .none s) else s

/-- Self-expiry of the station's claims, entries in ascending order of key (R50, R51). -/
def selfExpiry (s : State) : State := overKeys selfExpireKey s.keysAscending s

/-! ### Release, leave and mute -/

/-- RELEASE or LEAVE of a MINE entry: FREE, and its state order becomes FREE without the mark (R40). -/
def releaseMine (k : Byte) (s : State) : State :=
  requestState (.free k false) (setWant k .none (setClaim k .free s))

/-- RELEASE or LEAVE of an ASKING entry (R41). -/
def releaseAsking (k : Byte) (window : Option Time) (s : State) : State :=
  setWant k .none (withdrawAsk k window s)

/-- What LEAVE does to one entry (R151). -/
def leaveKey (k : Byte) (s : State) : State :=
  match s.entry k with
  | none => s
  | some e =>
    match e.claim with
    | .mine => releaseMine k s
    | .asking w => releaseAsking k w s
    | _ => setWant k .none s

/-- What entry to MUTE does to one entry (R154). -/
def muteKey (k : Byte) (s : State) : State :=
  match s.entry k with
  | none => s
  | some e =>
    match e.claim with
    | .mine => produce (.lost k .muted 0) (setWant k .none (setClaim k .free s))
    | .asking _ => produce (.refused k .muted 0) (setWant k .none (setClaim k .free s))
    | _ => if e.want = .wait then produce (.refused k .muted 0) (setWant k .none s) else s

/-! ### The station's own frames and the claim timers -/

/-- The own ASK for the key has completed (R23). -/
def ownAskCompletes (k : Byte) (s : State) : State :=
  match s.entry k with
  | none => s
  | some e =>
    match e.claim with
    | .asking none => removeAsk k (setClaim k (.asking (some s.windowTime)) s)
    | .free => requestState (.free k true) s
    | _ => s

/-- The claim timer of an entry that is running reaches zero in ASKING: the station takes the key (R31). -/
def grantKey (k : Byte) (e : Entry) (s : State) : State :=
  let g := e.gen + 1
  requestState (.hold k) (produce (.granted k g) (setWant k .none (setClaimGen k .mine g s)))

/-- The timer an entry carries (R2). -/
def Claim.timer : Claim → Option Time
  | .asking w => w
  | .peerAsking _ d => some d
  | _ => none

/-- The objection window of the key expires; a window that is not running does not (R9, R31). -/
def windowExpires (k : Byte) (s : State) : State :=
  match s.entry k with
  | none => s
  | some e =>
    match e.claim with
    | .asking (some _) => if s.monitor.timersRun then grantKey k e s else s
    | _ => s

/-- The peer-ask deferral of the key expires; a deferral that is not running does not (R9, R36). -/
def deferralExpires (k : Byte) (s : State) : State :=
  match s.entry k with
  | none => s
  | some e =>
    match e.claim with
    | .peerAsking _ _ => if s.monitor.timersRun then becomeFree k s else s
    | _ => s

/-- The claim timer of the key stands at zero and is not paused (R8, R9). -/
def State.claimDue (s : State) (k : Byte) : Bool :=
  s.monitor.timersRun && (match s.entry k with
    | some e => e.claim.timer == some 0
    | none => false)

/-- The claim timer of the key expires if it stands at zero and is not paused: window or deferral (R8). -/
def claimTimerExpires (k : Byte) (s : State) : State :=
  if s.claimDue k then deferralExpires k (windowExpires k s) else s

/-- The ASK order of one ask that listening held (R20, R75). -/
def placeHeld (k : Byte) (s : State) : State :=
  match s.entry k with
  | none => s
  | some e =>
    match e.claim with
    | .asking none => (requestAsk k s).getD s
    | _ => s

/-! ### The key commands (chapters 1 to 3) -/

/-- WATCH, UNWATCH and QUERY are accepted (R10, R147). -/
def StationState.takesWatch : StationState → Bool
  | .unconfigured => false
  | .offline => false
  | _ => true

/-- ASK, RELEASE, POST and LEAVE are accepted (R10, R147). -/
def StationState.takesAsk : StationState → Bool
  | .listening => true
  | .active => true
  | _ => false

/-- The station an entry names: holder, asker or 0 (R18). -/
def Claim.station (own : Addr) : Claim → Addr
  | .mine => own
  | .theirs h => h
  | .peerAsking a _ => a
  | _ => 0

/-- The fields entry number and state of a result; 0xFF where the key has no entry (R182). -/
def State.entryFields (s : State) (k : Byte) : List Byte :=
  match findNumber k s.table, s.entry k with
  | some n, some e => [natByte n, e.claim.code]
  | _, _ => [0xFF, 0xFF]

/-- The station field of an ASK result; 0 where the key has no entry (R18, R182). -/
def State.entryStation (s : State) (k : Byte) : Byte :=
  match s.entry k with
  | some e => addrByte (e.claim.station s.ownAddr)
  | none => 0

/-- A result of ASK with its four fields (R18, R171). -/
def answerAsk (code : ResultCode) (k : Byte) (s : State) : State :=
  answer code cmdAsk (k :: s.entryFields k ++ [s.entryStation k]) s

/-- ASK on an entry that is FREE; `before` is the state without this command's allocation (R11, R18). -/
def askFree (k : Byte) (mode : Want) (before s : State) : State :=
  match startAsk k (setWant k mode s) with
  | some t => answerAsk .done k t
  | none => answerAsk .queueFull k before

/-- ASK on an entry that is not FREE (R19). -/
def askBusy (k : Byte) (mode : Want) (e : Entry) (s : State) : State :=
  match e.claim with
  | .mine => answerAsk .alreadyHeld k s
  | .asking _ => answerAsk .busyKey k s
  | _ =>
    if mode = .once then answerAsk .heldByPeer k s else answerAsk .queuedWait k (setWant k .wait s)

/-- ASK with a mode in range (R11, R18, R19). -/
def askEntry (k : Byte) (mode : Want) (s : State) : State :=
  match s.entry k with
  | some e => if e.claim = .free then askFree k mode s s else askBusy k mode e s
  | none =>
    match allocate (newEntry k) s.table with
    | none => answer .tableFull cmdAsk [k] s
    | some t => askFree k mode s { s with table := t }

/-- ASK past the length check (R10, R18). -/
def askCommand (k mode : Byte) (s : State) : State :=
  if !s.station.takesAsk then answer .wrongState cmdAsk [k] s
  else if !validKey k then answer .badKey cmdAsk [k] s
  else if mode = 1 then askEntry k .once s
  else if mode = 2 then askEntry k .wait s
  else answer .badConfig cmdAsk [k] s

/-- A result with key, entry number and state (R12, R39, R171). -/
def answerKey (code : ResultCode) (command k : Byte) (s : State) : State :=
  answer code command (k :: s.entryFields k) s

/-- RELEASE of a key that has an entry (the table of R39). -/
def releaseEntry (k : Byte) (e : Entry) (s : State) : State :=
  match e.claim with
  | .mine => answerKey .done cmdRelease k (releaseMine k s)
  | .asking w => answerKey .done cmdRelease k (releaseAsking k w s)
  | .free => answerKey .notHeld cmdRelease k s
  | _ =>
    if e.want = .wait then answerKey .done cmdRelease k (setWant k .none s)
    else answerKey .notHeld cmdRelease k s

/-- RELEASE past the length check (R10, R39). -/
def releaseCommand (k : Byte) (s : State) : State :=
  if !s.station.takesAsk then answer .wrongState cmdRelease [k] s
  else if !validKey k then answer .badKey cmdRelease [k] s
  else match s.entry k with
    | none => answer .notWatched cmdRelease [k] s
    | some e => releaseEntry k e s

/-- WATCH past the length check (R10, R12). -/
def watchCommand (k : Byte) (s : State) : State :=
  if !s.station.takesWatch then answer .wrongState cmdWatch [k] s
  else if !validKey k then answer .badKey cmdWatch [k] s
  else match s.entry k with
    | some _ => answerKey .done cmdWatch k s
    | none =>
      match allocate (newEntry k) s.table with
      | none => answer .tableFull cmdWatch [k] s
      | some t => answerKey .done cmdWatch k { s with table := t }

/-- The frame for the key in the attempt slot: 0 NONE, 1 ASK, 2 OBJECT, 3 HOLD, 4 FREE (R14, 12.4). -/
def State.frameInAttempt (s : State) (k : Byte) : Byte :=
  match s.slotOrder with
  | some (.normal (.ask j)) => if j = k then 1 else 0
  | some (.urgent (.object j)) => if j = k then 2 else 0
  | some (.urgent (.hold j)) => if j = k then 3 else 0
  | some (.urgent (.free j _)) => if j = k then 4 else 0
  | _ => 0

/-- A lane or the attempt slot holds something for the key (R13). -/
def State.hasOrder (s : State) (k : Byte) : Bool :=
  s.urgent.any (fun o => o.key == k) || s.normal.any (NormalOrder.isAskOf k) || s.frameInAttempt k != 0

/-- UNWATCH is answered BUSY_KEY (R13). -/
def State.busyKey (s : State) (k : Byte) (e : Entry) : Bool :=
  (match e.claim with
    | .mine => true
    | .asking _ => true
    | _ => false) || e.want == .wait || s.hasOrder k

/-- UNWATCH past the length check (R10, R13). -/
def unwatchCommand (k : Byte) (s : State) : State :=
  if !s.station.takesWatch then answer .wrongState cmdUnwatch [k] s
  else if !validKey k then answer .badKey cmdUnwatch [k] s
  else match s.entry k with
    | none => answer .notWatched cmdUnwatch [k] s
    | some e =>
      if s.busyKey k e then answer .busyKey cmdUnwatch [k] s
      else answer .done cmdUnwatch [k] { s with table := vacateEntry k s.table }

/-- The ask progress of QUERY: 0 NONE, 1 HELD, 2 QUEUED, 3 IN_ATTEMPT, 4 SENT (R6, R14). A frame in the
attempt slot counts before a queued order (R22, R133; log 13). -/
def State.askProgress (s : State) (k : Byte) (c : Claim) : Byte :=
  match c with
  | .asking (some _) => 4
  | .asking none =>
    if s.slotAsk k then 3 else if s.normal.any (NormalOrder.isAskOf k) then 2 else 1
  | _ => 0

/-- The state order for the key in the urgent lane: 0 NONE, 1 HOLD, 2 FREE (R14). -/
def stateOrderCode (k : Byte) : List UrgentOrder → Byte
  | [] => 0
  | .hold j :: t => if j = k then 1 else stateOrderCode k t
  | .free j _ :: t => if j = k then 2 else stateOrderCode k t
  | .object _ :: t => stateOrderCode k t

/-- The holder field of the snapshot: the holder's address in MINE and THEIRS, else 0 (R14). -/
def Claim.holderField (own : Addr) : Claim → Byte
  | .mine => addrByte own
  | .theirs h => addrByte h
  | _ => 0

/-- The asker field of the snapshot (R14). -/
def Claim.askerField : Claim → Byte
  | .peerAsking a _ => addrByte a
  | _ => 0

/-- The timer field of the snapshot: the remaining time in ms rounded up, 0 without a timer (R14). A timer
that pauses with zero remaining (R114) is reported as 0, with timer paused yes, although R14 gives 1..510 for
an entry that carries a timer: the model's choice (log 21). -/
def Claim.timerField (c : Claim) : Nat :=
  match c.timer with
  | some t => msRoundedUp t
  | none => 0

/-- The snapshot of QUERY (R14, laid out in 12.4). -/
def State.snapshot (s : State) (k : Byte) (e : Entry) : List Byte :=
  (k :: s.entryFields k) ++
  [e.want.code, e.claim.holderField s.ownAddr, e.claim.askerField, e.gen, s.askProgress k e.claim] ++
  twoBytes e.claim.timerField ++
  [boolByte (e.claim.timer.isSome && !s.monitor.timersRun), stateOrderCode k s.urgent,
   boolByte (s.urgent.any (UrgentOrder.isObjectOf k)), s.frameInAttempt k]

/-- QUERY past the length check (R10, R14). -/
def queryCommand (k : Byte) (s : State) : State :=
  if !s.station.takesWatch then answer .wrongState cmdQuery [k] s
  else if !validKey k then answer .badKey cmdQuery [k] s
  else match s.entry k with
    | none => answer .notWatched cmdQuery [k] s
    | some e => answer .done cmdQuery (s.snapshot k e) s

end Sys2Proof.Machine
end

