-- ==== Sys2Proof/Machine/Presence.lean ====
section
/-! DEFINITION. The Presence Unit: the Roster, silence and departure, the station's own timing (chapter 4). -/

namespace Sys2Proof.Machine

/-- The frames field of a peer entry, one more, stopping at 255 (R61, R63). -/
def framesUp (n : Nat) : Nat := min 255 (n + 1)

/-- An intact foreign frame from P refreshes its entry. `flag` is the joining flag of a PRESENCE without
the leaving flag, `none` for a frame of another kind (R63). -/
def peerHeard (p : Addr) (flag : Option Bool) (s : State) : State :=
  match s.peer p with
  | some e =>
    setPeer p (some { age := 0, joining := flag.getD e.joining, frames := framesUp e.frames }) s
  | none =>
    produce (.peerJoined p (flag.getD false))
      (setPeer p (some { age := 0, joining := flag.getD false, frames := 1 }) s)

/-- A leaving PRESENCE from P declares it left (R65). -/
def peerDeparts (p : Addr) (s : State) : State :=
  match s.peer p with
  | some e => orphanRelease p (produce (.peerLeft p (framesUp e.frames)) (setPeer p none s))
  | none => orphanRelease p s

/-- P is declared silent (R64). An entry that is ABSENT has no age that could reach the timeout. -/
def peerGoesSilent (p : Addr) (s : State) : State :=
  match s.peer p with
  | some e => orphanRelease p (produce (.peerSilent p e.frames) (setPeer p none s))
  | none => s

/-- At the acceptance of ESTABLISH the entries whose age has reached T_s become ABSENT without a notice
(R67). -/
def dropAged (limit : Time) (roster : List (Option Peer)) : List (Option Peer) :=
  roster.map fun place => place.filter fun e => e.age < limit

/-- The number of PRESENT peer entries (R75). -/
def State.presentPeers (s : State) : Nat := s.roster.countP Option.isSome

/-- The present bitmap, place by place (R78). -/
def State.presentPlaces (s : State) : List Bool :=
  (s.roster.map Option.isSome).set s.ownAddr.toNat s.own.present

/-- The joining bitmap, place by place (R78). -/
def State.joiningPlaces (s : State) : List Bool :=
  (s.roster.map fun place => (place.map Peer.joining).getD false).set s.ownAddr.toNat s.own.joining

/-- ROSTER past the length check (R78). -/
def rosterCommand (s : State) : State :=
  answer .done cmdRoster (bitmapBytes s.presentPlaces ++ bitmapBytes s.joiningPlaces) s

/-- An own PRESENCE has completed: the presence count returns to 0, the joining field is the frame's, and
the first one since ESTABLISH makes the own entry PRESENT and starts the listen timer in LISTENING
(R69, R74). -/
def ownPresence (joining : Bool) (s : State) : State :=
  { s with own :=
    { s.own with
      present := true, joining := joining, presence := some 0
      listen := if !s.own.present && s.station == .listening then some s.halfSilence else s.own.listen } }

/-- An own frame of any kind has completed: the silence count returns to 0 (R69). -/
def ownHeard (s : State) : State :=
  { s with own := { s.own with silence := s.own.silence.map fun _ => 0 } }

/-- The presence count reaches T_s/4 and stops there; a PRESENCE is requested in LISTENING and ACTIVE. A
count that stands at T_s/4 does not reach it again (R70). -/
def presenceDue (s : State) : State :=
  match s.own.presence with
  | some t =>
    if (s.station == .listening || s.station == .active) && t < s.presencePeriod then
      requestPresence { s with own := { s.own with presence := some s.presencePeriod } }
    else s
  | none => s

/-- The silence count reaches T_s/2: it restarts, and in ACTIVE self-expiry is signalled (R72). -/
def silenceDue (s : State) : State :=
  match s.own.silence with
  | some _ =>
    let s := { s with own := { s.own with silence := some 0 } }
    if s.station = .active then selfExpiry s else s
  | none => s

/-- The listen timer expires: ACTIVE, JOINED, and the held asks' orders in ascending order of key; a timer
that is paused or absent does not expire (R74, R75). -/
def listenExpires (s : State) : State :=
  match s.own.listen with
  | some _ =>
    if s.station = .listening ∧ s.monitor.timersRun = true then
      let s := { s with station := .active, own := { s.own with listen := none } }
      let s := produce (.joined s.presentPeers) s
      overKeys placeHeld s.keysAscending s
    else s
  | none => s

/-- The listen timer stands at zero and is not paused (R75). -/
def State.listenDue (s : State) : Bool := s.own.listen == some 0 && s.monitor.timersRun

/-- A timer that can have paused at zero: the claim timer of a key, or the listen timer (R9, R74, R114). -/
inductive PausedTimer where
  | claim (key : Byte)
  | listen
  deriving DecidableEq, Repr

/-- The timers that stand at zero and are not paused. -/
def State.zeroTimers (s : State) : List PausedTimer :=
  (s.keysAscending.filter s.claimDue).map .claim ++ if s.listenDue then [.listen] else []

/-- One of them expires, if it still stands. -/
def zeroTimerExpires (t : PausedTimer) (s : State) : State :=
  match t with
  | .claim k => claimTimerExpires k s
  | .listen => if s.listenDue then listenExpires s else s

/-- At the return of the Line Monitor to IDLE the timers that paused with zero remaining expire at once
(R114), two or more in a free order (log 5). -/
def resumeTimers (s : State) : State :=
  (freeOrder s.freeCount s.zeroTimers).foldl (fun t e => settled (zeroTimerExpires e) t)
    (useFree s.zeroTimers.length s)

end Sys2Proof.Machine
end

