-- ==== Sys2Proof/Machine/Posts.lean ====
section
/-! DEFINITION. The Post Unit: posts for sending and the Mailbox (chapter 10). -/

namespace Sys2Proof.Machine

/-- The largest number of pending posts (R122) and of posts in the Mailbox (R163). -/
def postLimit : Nat := 4

/-- The fields of a POST result (R159, R171). -/
def answerPost (code : ResultCode) (tag : Byte) (s : State) : State :=
  answer code cmdPost [tag, natByte s.pendingPosts] s

/-- A POST order joins the tail of the normal lane (R122, R126). -/
def requestPost (p : Post) (s : State) : State :=
  if s.station.transmits then { s with normal := s.normal ++ [.post p] } else s

/-- POST past step 4 of R170: the checks of R159 in their order. R147 answers WRONG_STATE before a command's own
fields are checked, and R159 checks the length field before it; the model follows R159 (log 31). -/
def postCommand (destination tag length : Byte) (payload : List Byte) (s : State) : State :=
  if length.toNat = 0 || length.toNat > 16 || payload.length != length.toNat then
    answer .badLength cmdPost [tag] s
  else if !s.station.takesAsk then answer .wrongState cmdPost [tag] s
  else if destination > 31 || destination == addrByte s.ownAddr then answer .badConfig cmdPost [tag] s
  else if postLimit ≤ s.pendingPosts then answerPost .queueFull tag s
  else
    answerPost .done tag (requestPost { destination := destination, tag := tag, payload := payload } s)

/-- A post for this station joins the Mailbox, or is dropped when four stand there (R163). -/
def deliver (m : Mail) (s : State) : State :=
  if s.mailbox.length < postLimit then { s with mailbox := s.mailbox ++ [m] }
  else produce (.postDropped m.source) (count .postsDropped s)

/-- The filter of R162. -/
def takePost (source : Addr) (destination : Byte) (payload : List Byte) (s : State) : State :=
  if destination = 0 then
    match s.config with
    | some c =>
      if c.broadcast then deliver { source := source, broadcast := true, payload := payload } s else s
    | none => s
  else if destination = addrByte s.ownAddr then
    deliver { source := source, broadcast := false, payload := payload } s
  else s

/-- POST_ABANDONED for each post of a list, in order (R125, R126). -/
def abandonPosts (ps : List Post) (s : State) : State :=
  ps.foldl (fun t p => produce (.postAbandoned p.tag) t) s

end Sys2Proof.Machine
end

