-- ==== Sys2Proof/Machine/Station.lean ====
section
/-! DEFINITION. Station Control: ESTABLISH, LEAVE, RESTART, the address clash, entry to MUTE and to OFFLINE
(chapter 9). -/

namespace Sys2Proof.Machine

/-! ### ESTABLISH (9.3) -/

/-- The minimum window in ms for the line rate (R148). -/
def minimumWindow (rate : BitVec 2) : Nat :=
  match rate.toNat with
  | 0 => 21
  | 1 => 11
  | 2 => 6
  | _ => 3

/-- The fields of ESTABLISH are in range (step 3 of R148). -/
def configInRange (rate : BitVec 2) (su w retry mask bcast : Byte) : Bool :=
  1 ≤ su.toNat && 1 ≤ w.toNat && minimumWindow rate ≤ w.toNat && 8 * w.toNat ≤ 16 * su.toNat &&
  1 ≤ retry.toNat && retry.toNat ≤ 15 && mask.toNat < 64 && bcast.toNat ≤ 1

/-- What an accepted ESTABLISH brings about at once (R149). -/
def establishAccepted (c : Configuration) (s : State) : State :=
  let s :=
    { s with
      config := some c, station := .listening
      roster := dropAged (ms (16 * c.silenceUnit.toNat)) s.roster
      own := { s.own with silence := some 0 }
      driveFaults := 0, access := .empty }
  requestPresence s

/-- ESTABLISH past the length check: the checks of R148 in their order, then R149. -/
def establishCommand (su w retry mask bcast : Byte) (s : State) : State :=
  if s.ownAddr = 0 then answer .noAddress cmdEstablish [] s
  else if s.addrInUse then answer .addressInUse cmdEstablish [] s
  else if !configInRange s.rate su w retry mask bcast then answer .badConfig cmdEstablish [] s
  else if s.station ≠ .unconfigured then answer .wrongState cmdEstablish [] s
  else
    answer .done cmdEstablish [addrByte s.ownAddr, s.rate.setWidth 8]
      (establishAccepted
        { silenceUnit := su, window := w, retryLimit := retry, mask := mask, broadcast := bcast == 1 } s)

/-! ### Ends of the station's transmission -/

/-- The posts given up when the station stops transmitting: the one in the attempt slot, then the queued
ones, head first (R125, R126, R161). -/
def State.givenUp (s : State) : List Post := s.slotPost.toList ++ lanePosts s.normal

/-- The attempt is abandoned and both lanes are flushed, with POST_ABANDONED for each post (R125, R126,
R142). -/
def stopTransmitting (s : State) : State :=
  abandonPosts s.givenUp { s with urgent := [], normal := [], access := .off, driveFaults := 0 }

/-- The own entry ABSENT, its counts and the listen timer removed (R68). -/
def dropOwn (s : State) : State := { s with own := OwnEntry.absent }

/-- Entry to MUTE (R154). -/
def enterMute (cause : LineFault) (s : State) : State :=
  let s := stopTransmitting { s with station := .mute, leaveLimit := none }
  let s := dropOwn (overKeys muteKey s.keysAscending s)
  produce (.lineFault cause) s

/-- Entry to OFFLINE (R153). -/
def enterOffline (reason : LeftReason) (s : State) : State :=
  let s := stopTransmitting { s with station := .offline, leaveLimit := none }
  let s := dropOwn { s with table := List.replicate 16 none, roster := List.replicate 32 none }
  produce (.left reason) s

/-- An address clash taken by the station state (R150). -/
def clashTaken (s : State) : State :=
  if s.station = .unconfigured then { s with addrInUse := true }
  else if s.station.transmits then enterMute .clash s
  else s

/-- The leave limit expires; it stands only in LEAVING (R152). -/
def leaveLimitExpires (s : State) : State :=
  if s.leaveLimit.isSome then enterOffline .unheard s else s

/-! ### LEAVE and RESTART -/

/-- The entries that are MINE. -/
def mineCount (t : List (Option Entry)) : Nat :=
  t.countP fun place => (place.map fun e => e.claim == .mine).getD false

/-- What an accepted LEAVE brings about at once (R151). -/
def leaveAccepted (s : State) : State :=
  let s := overKeys leaveKey s.keysAscending s
  let s := requestLeaving { s with own := { s.own with listen := none } }
  { s with leaveLimit := some s.halfSilence, station := .leaving }

/-- LEAVE past the length check (R147, R151). -/
def leaveCommand (s : State) : State :=
  if s.station.takesAsk then answer .done cmdLeave [natByte (mineCount s.table)] (leaveAccepted s)
  else answer .wrongState cmdLeave [] s

/-- Every block but the port and the counters as RESTART leaves it (the table of R156). -/
def restarted (s : State) : State :=
  { s with
    station := .unconfigured, config := none, addrInUse := false, leaveLimit := none
    receiver := .recovering, monitor := .settling 0, run := none, longMark := false, lastSource := 0
    decoder := .waiting, table := List.replicate 16 none
    roster := List.replicate 32 none, own := OwnEntry.absent
    urgent := [], normal := [], access := .off, driveFaults := 0, mailbox := []
    result := none, notices := [] }

/-- RESTART past the length check: accepted in every state, its DONE in the cleared slot (R156). -/
def restartCommand (s : State) : State := answer .done cmdRestart [] (restarted s)

end Sys2Proof.Machine
end

