-- ==== Sys2Proof/Machine/Access.lean ====
section
/-! DEFINITION. The Access Engine: composition, the begin of an attempt, readback, yield, drive fault,
completion (chapter 8), and how a frame is handed back to its lane (R124). -/

namespace Sys2Proof.Machine

/-! ### Composition (8.3) -/

/-- The generation of the key's entry. HOLD, FREE and OBJECT orders stand only for keys with an entry
(R116), so the 0 of a key without one is never sent (log 20). -/
def State.genOf (s : State) (k : Byte) : Byte := ((s.entry k).map Entry.gen).getD 0

/-- The (key, gen) pairs of the MINE entries, in ascending order of key (R134). -/
def State.minePairs (s : State) : List (Byte × Byte) :=
  s.keysAscending.filterMap fun k =>
    match s.entry k with
    | some e => if e.claim = .mine then some (k, e.gen) else none
    | none => none

/-- The reason of an OBJECT composed now, 1 HELD or 2 EARLIER_ASK, or `none` when the order is discarded
(R132, R135). -/
def State.objectReason (s : State) (k : Byte) : Option Byte :=
  match (s.entry k).map Entry.claim with
  | some .mine => some 1
  | some (.asking (some _)) => some 2
  | _ => none

/-- The entry for the key is ASKING. -/
def State.isAsking (s : State) (k : Byte) : Bool :=
  match (s.entry k).map Entry.claim with
  | some (.asking _) => true
  | _ => false

/-- The entry for the key is MINE. -/
def State.isMine (s : State) (k : Byte) : Bool :=
  match (s.entry k).map Entry.claim with
  | some .mine => true
  | _ => false

/-- The frame an urgent order is composed to, or `none` when it is discarded (R132, R133, R135). -/
def composeUrgent (s : State) : UrgentOrder → Option Body
  | .object k => (s.objectReason k).map fun r => .object k (addrByte s.ownAddr) r (s.genOf k)
  | .hold k => some (.hold k (s.genOf k))
  | .free k w => some (.free k (s.genOf k) w)

/-- The frame a normal order is composed to, or `none` when it is discarded (R132 to R134). -/
def composeNormal (s : State) : NormalOrder → Option Body
  | .ask k => if s.isAsking k then some (.ask k) else none
  | .presence leaving => some (.presence (s.station == .listening) leaving s.minePairs)
  | .post p => some (.post p.destination p.payload)

/-- The first order of the urgent lane that is not discarded, its frame, and the rest of the lane. -/
def takeUrgent (s : State) : List UrgentOrder → Option (Order × Body) × List UrgentOrder
  | [] => (none, [])
  | o :: t =>
    match composeUrgent s o with
    | some b => (some (.urgent o, b), t)
    | none => takeUrgent s t

/-- The first order of the normal lane that is not discarded, its frame, and the rest of the lane. -/
def takeNormal (s : State) : List NormalOrder → Option (Order × Body) × List NormalOrder
  | [] => (none, [])
  | o :: t =>
    match composeNormal s o with
    | some b => (some (.normal o, b), t)
    | none => takeNormal s t

/-- The slot filled with a frame that begins now (R133, R136). -/
def State.newAttempt (s : State) (o : Order) (b : Body) : Attempt :=
  { order := o, frame := { source := s.ownAddr, body := b }, driven := 0, checked := 0 }

/-- The Access Engine takes the head order, the urgent lane first, composes its frame and starts to drive
it; with nothing to compose the condition becomes EMPTY (R124, R130, R132). -/
def beginAttempt (s : State) : State :=
  match takeUrgent s s.urgent with
  | (some (o, b), t) => { s with urgent := t, access := .driving (s.newAttempt o b) }
  | (none, t) =>
    match takeNormal s s.normal with
    | (some (o, b), u) => { s with urgent := t, normal := u, access := .driving (s.newAttempt o b) }
    | (none, u) => { s with urgent := t, normal := u, access := .empty }

/-! ### Frames handed back (R124, R141) -/

/-- An urgent frame handed back: to the head of its lane as an order, or discarded (R124). -/
def handBackUrgent (o : UrgentOrder) (s : State) : State :=
  match o with
  | .object k =>
    if s.urgent.any (UrgentOrder.isObjectOf k) then s else { s with urgent := o :: s.urgent }
  | .hold k =>
    if s.urgent.any (UrgentOrder.isStateOf k) || !s.isMine k then s
    else { s with urgent := o :: s.urgent }
  | .free k _ =>
    if s.urgent.any (UrgentOrder.isStateOf k) then s else { s with urgent := o :: s.urgent }

/-- A normal frame handed back (R124). -/
def handBackNormal (o : NormalOrder) (s : State) : State :=
  match o with
  | .ask k =>
    if s.normal.any (NormalOrder.isAskOf k) || !s.isAsking k then s
    else { s with normal := o :: s.normal }
  | .presence _ =>
    if s.normal.any NormalOrder.isPresence then s else { s with normal := o :: s.normal }
  | .post _ => { s with normal := o :: s.normal }

/-- The frame leaves the slot and goes back to its lane; the condition is SLOT_WAIT, or EMPTY by
`refreshAccess` when no order stands (R138, R139). -/
def handBack (o : Order) (s : State) : State :=
  let s := { s with access := .slotWait }
  match o with
  | .urgent u => handBackUrgent u s
  | .normal n => handBackNormal n s

/-! ### The end of an attempt (8.4, 8.5) -/

/-- The attempt ends in a yield (R138). -/
def endInYield (a : Attempt) (s : State) : State := handBack a.order (count .yields s)

/-- The retry limit, 1..15 (R148). -/
def State.retryLimit (s : State) : Nat :=
  match s.config with
  | some c => c.retryLimit.toNat
  | none => 0

/-- The attempt ends in a drive fault: handed back below the retry limit, entry to MUTE at it (R139). -/
def endInDriveFault (a : Attempt) (s : State) : State :=
  let s := { count .driveFaults s with driveFaults := s.driveFaults + 1 }
  if s.driveFaults < s.retryLimit then handBack a.order s else enterMute .drive s

/-- What the completion of each kind of own frame does beside the parts common to all (R95, R140). -/
def ownCompletes (o : Order) (joining : Bool) (s : State) : State :=
  match o with
  | .urgent _ => s
  | .normal (.ask k) => ownAskCompletes k s
  | .normal (.post p) => produce (.postSent p.tag) s
  | .normal (.presence leaving) =>
    if leaving then enterOffline .heard (ownPresence joining s) else ownPresence joining s

/-- The joining flag a PRESENCE body carries. -/
def Body.joiningFlag : Body → Bool
  | .presence j _ _ => j
  | _ => false

/-- NOISY_FRAMES is counted for an intact frame that held a noisy character (R90). -/
def countNoisy (noisy : Bool) (s : State) : State := if noisy then count .noisyFrames s else s

/-- The attempt has completed: the own arrival of R95 and R140. -/
def ownArrival (a : Attempt) (noisy : Bool) (s : State) : State :=
  let s := countNoisy noisy (count .framesOwn s)
  let s := { s with access := .slotWait, driveFaults := 0, lastSource := s.ownAddr }
  ownCompletes a.order a.frame.body.joiningFlag (ownHeard s)

/-- The samples driven since the start edge of the character in progress: 1 to 8 are the points of its start
bit (R136, R137). -/
def Attempt.startPoint (a : Attempt) : Nat := a.driven % 88

/-- The start bit of the character being driven has not been verified yet. Behind the last character there is
none (R137, R140). -/
def Attempt.startOpen (a : Attempt) : Bool :=
  a.checked ≤ 11 * (a.driven / 88) && a.driven / 88 < a.frame.encode.length

/-- The own start bit stands at its point 6 and has not been verified (R137). -/
def Attempt.startLapsed (a : Attempt) : Bool := a.startPoint == 6 && a.startOpen

/-- The attempt after `n` more samples of the own drive (R136). -/
def Attempt.driveFor (n : Nat) (a : Attempt) : Attempt := { a with driven := a.driven + n }

/-- The own start bit passes its point 6 unverified before the last of the next `n` samples (R137). -/
def Attempt.lapsesWithin (n : Nat) (a : Attempt) : Bool :=
  (List.range n).any fun i => i != 0 && (a.driveFor i).startLapsed

/-- The own drive goes on by `n` samples, at the last of which the Line Receiver judges a candidate. A start
bit that passes its point 6 before that is a drive fault there (R136, R137). -/
def driveToVerdict (n : Nat) (s : State) : State :=
  match s.access with
  | .driving a =>
    if a.lapsesWithin n then endInDriveFault a s else { s with access := .driving (a.driveFor n) }
  | _ => s

/-- The Line Receiver hands a bit's value to the Access Engine, which compares it with the level driven in
the bit of the same position (R137). -/
def handBit (read : Level) (s : State) : State :=
  match s.access with
  | .driving a =>
    match a.frame.levelAt a.checked, read with
    | .dominant, .dominant => { s with access := .driving { a with checked := a.checked + 1 } }
    | .recessive, .recessive => { s with access := .driving { a with checked := a.checked + 1 } }
    | .recessive, .dominant => endInYield a s
    | .dominant, .recessive => endInDriveFault a s
  | _ => s

end Sys2Proof.Machine
end

