-- ==== Sys2Proof/Machine/Line.lean ====
section
/-! DEFINITION. The Frame Decoder, the Line Monitor and the Line Receiver: what characters, frames, runs and
samples do (chapters 5 and 6). -/

namespace Sys2Proof.Machine

/-! ### The Frame Decoder: dispatch (5.6) -/

/-- A frame is discarded: its counter, and last_source 0 (R91). -/
def discardFrame (c : Counter) (s : State) : State := { count c s with lastSource := 0 }

/-- The frame is an address clash: its source is the own address, or it is an OBJECT whose precedent is
(R93). -/
def State.isClash (s : State) (f : Frame) : Bool :=
  s.isOwn f.source || match f.body with
    | .object _ p _ _ => s.ownAddr != 0 && p == addrByte s.ownAddr
    | _ => false

/-- A clash frame: the second form refreshes its source's Roster entry where the Presence Unit receives
frames, and Station Control takes the clash (R93, R94, R150; log 12). -/
def takeClash (f : Frame) (s : State) : State :=
  if s.isOwn f.source || s.station == .offline then clashTaken s
  else clashTaken (peerHeard f.source none s)

/-- What the Presence Unit alone does with a frame (R63, R65). -/
def presenceUnit (f : Frame) (s : State) : State :=
  match f.body with
  | .presence joining leaving _ =>
    if leaving then peerDeparts f.source s else peerHeard f.source (some joining) s
  | _ => peerHeard f.source none s

/-- The answer to a joining PRESENCE at an ACTIVE station (R73), beside the reconciliation. R94 fixes no
order between the two; where the order shows in the normal lane a free value settles it (log 6). -/
def reconcileAndAnswer (p : Addr) (pairs : List (Byte × Byte)) (s : State) : State :=
  let after := requestPresence (reconcile p pairs s)
  let before := reconcile p pairs (requestPresence s)
  if after.normal = before.normal then after
  else if Config.answerFirst s.freeCount then { before with freeCount := s.freeCount + 1 }
  else { after with freeCount := s.freeCount + 1 }

/-- A PRESENCE without the leaving flag (R53, R54, R63, R73). -/
def takePresence (p : Addr) (joining : Bool) (pairs : List (Byte × Byte)) (s : State) : State :=
  let s := peerHeard p (some joining) s
  if joining && s.station == .active then reconcileAndAnswer p pairs s else reconcile p pairs s

/-- Every block takes the frame (the first table of R94). -/
def allBlocks (f : Frame) (s : State) : State :=
  match f.body with
  | .presence joining leaving pairs =>
    if leaving then peerDeparts f.source s else takePresence f.source joining pairs s
  | .ask k => claimAsk f.source k (peerHeard f.source none s)
  | .object k p r g => claimObject k p r g (peerHeard f.source none s)
  | .hold k g => claimHold true f.source k g (peerHeard f.source none s)
  | .free k _ w => claimFree f.source k w (peerHeard f.source none s)
  | .post d payload => takePost f.source d payload (peerHeard f.source none s)

/-- The dispatch of a foreign frame that is not a clash, by the station state (R94). -/
def dispatch (f : Frame) (s : State) : State :=
  match s.station with
  | .offline => s
  | .unconfigured => presenceUnit f s
  | _ => allBlocks f s

/-- An intact foreign frame (R90, R92 to R94, R114). -/
def foreignFrame (f : Frame) (noisy : Bool) (s : State) : State :=
  let s := { countNoisy noisy (count .framesOk s) with lastSource := f.source }
  if s.isClash f then takeClash f s else dispatch f s

/-! ### The Frame Decoder: assembly (5.3 to 5.5) -/

/-- The expected length that the characters so far fix: `none` when the length field is out of range
(R85), `some none` before it has arrived (R79, R83, R84). -/
def expectedLength : Kind → List Byte → Option (Option Nat)
  | .ask, _ => some (some 3)
  | .object, _ => some (some 6)
  | .hold, _ => some (some 4)
  | .free, _ => some (some 5)
  | .presence, _ :: c :: _ =>
    if (c &&& 0x1F).toNat ≤ 16 then some (some (3 + 2 * (c &&& 0x1F).toNat)) else none
  | .post, _ :: _ :: l :: _ =>
    if 1 ≤ l.toNat ∧ l.toNat ≤ 16 then some (some (4 + l.toNat)) else none
  | _, _ => some none

/-- The frame that the received data bytes spell, the check byte last (12.1). -/
def Assembly.frame (a : Assembly) : Option Frame :=
  (readBody a.kind (a.chars.drop 1).dropLast).map fun b => { source := a.source, body := b }

/-- The check byte of the received frame matches (step 1 of R88). -/
def Assembly.crcMatches (a : Assembly) : Bool := a.chars.getLast? == some (crc8 a.chars.dropLast)

/-- An intact frame is an own arrival when it completes an attempt of this station that it matches, and
foreign otherwise (R92). -/
def intactFrame (f : Frame) (a : Assembly) (s : State) : State :=
  match s.access with
  | .driving t => if t.frame.encode = a.chars then ownArrival t a.noisy s else foreignFrame f a.noisy s
  | _ => foreignFrame f a.noisy s

/-- A frame of the expected length is checked (R88). -/
def checkFrame (a : Assembly) (s : State) : State :=
  let s := { s with decoder := .waiting }
  if a.crcMatches then
    match a.frame with
    | some f => if f.inRange then intactFrame f a s else discardFrame .malformed s
    | none => discardFrame .malformed s
  else discardFrame .crcFail s

/-- The frame under assembly with a character added (R84 to R86). -/
def growFrame (a : Assembly) (s : State) : State :=
  match expectedLength a.kind a.chars with
  | none => { discardFrame .malformed s with decoder := .skipping }
  | some n =>
    if n = some a.chars.length then checkFrame { a with expected := n } s
    else { s with decoder := .assembling { a with expected := n } }

/-- The frame under assembly, if any, is discarded as BROKEN (R87). -/
def breakFrame (s : State) : State :=
  match s.decoder with
  | .assembling _ => discardFrame .broken s
  | _ => s

/-- A character with mark bit 1 and no framing error starts a frame (R84, R87). -/
def markCharacter (data : Byte) (noisy : Bool) (s : State) : State :=
  let s := breakFrame s
  match kindOf data with
  | none => { discardFrame .unknownKind s with decoder := .skipping }
  | some k =>
    growFrame { kind := k, source := sourceOf data, chars := [data], expected := none, noisy := noisy } s

/-- A character with mark bit 0 and no framing error (R86). -/
def bodyCharacter (data : Byte) (noisy : Bool) (s : State) : State :=
  match s.decoder with
  | .waiting => count .strayChars s
  | .assembling a => growFrame { a with chars := a.chars ++ [data], noisy := a.noisy || noisy } s
  | .skipping => s

/-- A character with a framing error (R87). One that finds the decoder WAITING is a frame that broke on its
first character, and a discard (log 14). -/
def brokenCharacter (s : State) : State :=
  match s.decoder with
  | .skipping => s
  | _ => { discardFrame .broken s with decoder := .skipping }

/-- The Frame Decoder takes a character (R83 to R87). -/
def takeCharacter (data : Byte) (mark noisy framingError : Bool) (s : State) : State :=
  match s.monitor with
  | .settling _ => s
  | _ =>
    if framingError then brokenCharacter s
    else if mark then markCharacter data noisy s
    else bodyCharacter data noisy s

/-- The gap limit reaches the Frame Decoder (R86, R87). -/
def gapReached (s : State) : State :=
  match s.decoder with
  | .assembling _ => { discardFrame .broken s with decoder := .waiting }
  | .skipping => { s with decoder := .waiting }
  | .waiting => s

/-- A long dominant is counted and marked, and reaches the Frame Decoder (R87, R111). -/
def longDominantReached (s : State) : State :=
  let s := { count .longDominant s with longMark := true }
  match s.decoder with
  | .assembling _ => { discardFrame .broken s with decoder := .skipping }
  | _ => s

/-! ### The Line Monitor (6.3 to 6.5) -/

/-- A start bit is verified: IDLE becomes BUSY (R106). -/
def Monitor.verified : Monitor → Monitor
  | .idle _ _ => .busy
  | m => m

/-- A clean character ends, or RXD reads recessive after a framing error: IDLE with idle age 0 (R107). -/
def Monitor.characterEnds : Monitor → Monitor
  | .idle _ _ => .idle 0 0
  | .busy => .idle 0 0
  | m => m

/-- RXD reads recessive for the first time after a framing error (R107). -/
def Monitor.released : Monitor → Monitor
  | .busy => .idle 0 0
  | m => m

/-- A recessive sample in SETTLING or STUCK (R104, R113). -/
def Monitor.moreRecessive : Monitor → Monitor
  | .settling n => .settling (n + 1)
  | .stuck n => .stuck (n + 1)
  | m => m

/-- A dominant sample sets the recessive count back to 0 (R104, R113). -/
def Monitor.noRecessive : Monitor → Monitor
  | .settling _ => .settling 0
  | .stuck _ => .stuck 0
  | m => m

/-- The monitor is IDLE. -/
def Monitor.isIdle : Monitor → Bool
  | .idle _ _ => true
  | _ => false

/-- The monitor is STUCK. -/
def Monitor.isStuck : Monitor → Bool
  | .stuck _ => true
  | _ => false

/-- The monitor is SETTLING. -/
def Monitor.isSettling : Monitor → Bool
  | .settling _ => true
  | _ => false

/-- The recessive count reaches 12 in SETTLING (R104). -/
def settlingEnds (s : State) : State :=
  match s.monitor with
  | .settling _ => { s with monitor := .idle 0 0 }
  | _ => s

/-- The recessive count reaches 12 in STUCK (R113); a timer that paused at zero expires then (R114). -/
def stuckEnds (s : State) : State :=
  match s.monitor with
  | .stuck _ =>
    resumeTimers (produce (.lineFault .stuckEnd) { s with monitor := .idle 0 0, lastSource := 0 })
  | _ => s

/-- The monitor enters STUCK (R112); a waiting station is back in SLOT_WAIT (R131). -/
def stuckBegins (s : State) : State :=
  produce (.lineFault .stuckBegin) { s with monitor := .stuck 0, access := s.access.lineBusy }

/-- The Access Engine is handed an idle age: a station in SLOT_WAIT begins at its slot, and any waiting
station on the open line (R105, R129, R130; log 10). -/
def slotReached (age : Nat) (s : State) : State :=
  match s.access with
  | .slotWait => if age = s.slot ∨ openAge ≤ age then beginAttempt s else s
  | .openWait => if openAge ≤ age then beginAttempt s else s
  | _ => s

/-- The idle age rises by one and is handed on (R105). -/
def nextAge (s : State) : State :=
  match s.monitor with
  | .idle elapsed age =>
    let s := { s with monitor := .idle elapsed (age + 1) }
    slotReached (age + 1) (if age + 1 = 4 then gapReached s else s)
  | _ => s

/-- `n` values of the idle age are handed on in rising order (R106). -/
def nextAges : Nat → State → State
  | 0, s => s
  | n + 1, s => nextAges n (nextAge s)

/-- The idle age is brought up to the whole bit times elapsed (R105, R106). -/
def catchUp (s : State) : State :=
  match s.monitor with
  | .idle elapsed age => nextAges (elapsed / 8 - age) s
  | _ => s

/-! ### The Line Receiver (6.2) -/

/-- The character whose start bit has just been verified (R100). -/
def verifiedStart (noisy : Bool) : Reception :=
  { bit := 0, point := 6, mids := [], value := some .dominant, bits := [], noisy := noisy }

/-- A start bit is verified at point 6 (R100, R106, R131), and its value goes to the Access Engine
(R137). -/
def startVerified (noisy : Bool) (s : State) : State :=
  handBit .dominant
    { s with
      receiver := .receiving (verifiedStart noisy)
      monitor := s.monitor.verified
      access := match s.monitor with
        | .idle _ _ => s.access.lineBusy
        | _ => s.access }

/-- The station drives its own start bit dominant, unverified yet, and drove it before the sample now judged.
A candidate that is judged false at the very sample of the own start edge, own point 1, is no drive fault: it
came before that edge, and the edge starts the next candidate (R102, R137; the model's choice, log 23). -/
def State.drivesStart (s : State) : Bool :=
  match s.access with
  | .driving a => 2 ≤ a.startPoint && a.startPoint ≤ 8 && a.startOpen
  | _ => false

/-- The start bit is read recessive (R137). -/
def startRecessive (s : State) : State :=
  match s.access with
  | .driving a => endInDriveFault a s
  | _ => s

/-- A candidate is judged false (R100, R106): a drive fault while the station is driving it dominant
(R137). -/
def startFalse (s : State) : State :=
  let s := { s with receiver := .searching }
  catchUp (if s.drivesStart then startRecessive s else s)

/-- The end of a clean character at the Line Receiver and the Line Monitor (R103, R107). -/
def characterEnds (cut : Bool) (s : State) : State :=
  { s with
    receiver := if cut && !s.monitor.isStuck then .starting 1 [] else .searching
    monitor := s.monitor.characterEnds }

/-- A clean character is delivered (R103): the Frame Decoder takes it at the moment at which the monitor
becomes IDLE (R107). -/
def deliverCharacter (r : Reception) (cut : Bool) (s : State) : State :=
  let data := byteOfBits ((r.bits.take 8).map Level.bit)
  let mark := (r.bits[8]?.map Level.bit).getD false
  takeCharacter data mark r.noisy false (characterEnds cut s)

/-- A character whose stop bit read dominant is delivered at point 6 (R103). The receiver waits for a recessive
sample behind point 6, even where the sample at point 6 was recessive itself (R107; the model's choice,
log 29). -/
def deliverFramingError (r : Reception) (s : State) : State :=
  let data := byteOfBits ((r.bits.take 8).map Level.bit)
  let mark := (r.bits[8]?.map Level.bit).getD false
  takeCharacter data mark r.noisy true { s with receiver := .recovering }

/-- The bit in progress ends with this value and point 1 of the next bit is taken. The start bit's value is
not part of the data (R101, R102). -/
def Reception.next (r : Reception) (v : Level) : Reception :=
  { bit := r.bit + 1, point := 1, mids := [], value := none
    bits := if r.bit = 0 then [] else r.bits ++ [v], noisy := r.noisy }

/-- An edge that begins the next bit early, or after the value was taken (R102): the stop bit ends the
character. -/
def endBit (r : Reception) (v : Level) (s : State) : State :=
  if r.bit = 10 then deliverCharacter r true s else { s with receiver := .receiving (r.next v) }

/-- A bit's value is taken at point 6 from the samples of points 4 to 6, and handed to the Access Engine
(R101, R103). A dominant stop bit is a framing error whichever of its samples was recessive (log 29). -/
def takeBit (r : Reception) (mids : List Level) (s : State) : State :=
  let v := majority mids
  let r' := { r with point := 6, mids := [], value := some v, noisy := r.noisy || disagree mids }
  let s := handBit v s
  if r.bit = 10 ∧ v = .dominant then deliverFramingError r' s
  else { s with receiver := .receiving r' }

/-- A sample in RECEIVING at point `q` of the bit in progress (R101, R102). -/
def receiveAt (r : Reception) (q : Nat) (level : Level) (edge : Bool) (s : State) : State :=
  if edge && 2 ≤ q && q ≤ 4 then { s with receiver := .receiving { r with point := 1, mids := [] } }
  else if edge && (q = 5 || q = 6) then endBit r .recessive (handBit .recessive s)
  else if edge && 7 ≤ q then endBit r (r.value.getD .recessive) s
  else if q = 4 || q = 5 then
    { s with receiver := .receiving { r with point := q, mids := r.mids ++ [level] } }
  else if q = 6 then takeBit r (r.mids ++ [level]) s
  else { s with receiver := .receiving { r with point := q } }

/-- A sample in STARTING at point `q` of the candidate (R100, R102). Two dominant samples of points 4 to 6
verify the start bit, and an edge at point 4 begins a new candidate: R109 says that a glitch of two samples
within those points leaves the line IDLE and one of three does not, and the model follows R100 and R102
(log 26). -/
def verifyAt (mids : List Level) (q : Nat) (level : Level) (edge : Bool) (s : State) : State :=
  if edge && 2 ≤ q && q ≤ 4 then { s with receiver := .starting 1 [] }
  else if edge && (q = 5 || q = 6) then
    { startFalse s with receiver := .starting 1 [] }
  else if q = 4 || q = 5 then { s with receiver := .starting q (mids ++ [level]) }
  else if q = 6 then
    if majority (mids ++ [level]) = .dominant then startVerified (disagree (mids ++ [level])) s
    else startFalse s
  else { s with receiver := .starting q mids }

/-- The Line Receiver takes a sample (R99 to R103). -/
def receive (level : Level) (edge : Bool) (s : State) : State :=
  match s.receiver with
  | .recovering =>
    if level = .recessive then
      { s with receiver := .searching, monitor := s.monitor.released }
    else s
  | .searching =>
    if edge && !s.monitor.isStuck then { s with receiver := .starting 1 [] } else s
  | .starting p mids => verifyAt mids (p + 1) level edge s
  | .receiving r =>
    if r.point = 8 then
      receiveAt (r.next (r.value.getD .recessive)) 1 level edge s
    else receiveAt r (r.point + 1) level edge s

/-! ### What the rows bring about at the line

Rows can be given in an order that no sequence of samples gives. Each takes its own event on the state as it
stands, and what an event left out before it would have done is not made up for (the model's choice, log 36). -/

/-- The dominant run and its long mark end (R108). -/
def runEnds (s : State) : State := { s with run := none, longMark := false }

/-- The bits with which a character ends, from the mark bit back to d0, as long as they have this level. -/
def trailing (level : Level) (data : Byte) (mark : Bool) : Nat :=
  ((mark :: (List.range 8).map fun i => data.getLsbD (7 - i)).takeWhile fun b => levelOfBit b == level).length

/-- The recessive count after a clean character: its last bits that were recessive, the stop bit among
them (R104; log 4). -/
def Monitor.afterClean (recessive : Nat) : Monitor → Monitor
  | .settling _ => .settling recessive
  | m => m

/-- A clean character, its start bit included, has passed on the line (R103, R106, R107, R131; log 4). In a noisy
one every sample of the last bits is taken to have read its bit's value (R104; the model's choice, log 37). -/
def characterPasses (data : Byte) (mark cut : Bool) (s : State) : State :=
  let s := { s with
    access := s.access.lineBusy
    monitor := s.monitor.afterClean (if cut then 0 else 8 * (trailing .recessive data mark + 1)) }
  let s := characterEnds cut (runEnds s)
  if cut then { s with run := some 0 } else s

/-- A character with a framing error has been taken at point 6 of its stop bit (R103, R107, R108; log 4). The
row is taken to be dominant at point 6 (the model's choice, log 29), and in every sample of the last dominant
bits, noisy or not (the model's choice, log 37). -/
def framingErrorPasses (data : Byte) (mark : Bool) (s : State) : State :=
  let dominant := trailing .dominant data mark
  { s with
    access := s.access.lineBusy
    monitor := match s.monitor with
      | .settling _ => .settling 0
      | m => m.verified
    receiver := .recovering
    run := some (8 * (if dominant = 9 then 10 else dominant) + 5)
    longMark := false }

/-- The station is driving an attempt. -/
def State.isDriving (s : State) : Bool := s.access.attempt.isSome

/-- The number of characters under assembly. -/
def Decoder.received : Decoder → Nat
  | .assembling a => a.chars.length
  | _ => 0

/-- The attempt with every bit up to the end of character `i` read back as driven (R137). -/
def Attempt.matchedTo (a : Attempt) (i : Nat) : Attempt :=
  { a with driven := max a.driven (88 * (i + 1)), checked := max a.checked (11 * (i + 1)) }

/-- CHARACTER (R103): while the station drives, only its own clean character in its place can have been
received (R137; log 16). -/
def characterRow (data : Byte) (mark noisy framingError cut : Bool) (s : State) : State :=
  if s.monitor.isStuck then s
  else match s.access with
    | .driving a =>
      let i := s.decoder.received
      if framingError = false ∧ a.frame.encode[i]? = some data ∧ mark = (i == 0) then
        takeCharacter data mark noisy false
          { characterPasses data mark cut s with access := .driving (a.matchedTo i) }
      else s
    | _ =>
      if framingError then takeCharacter data mark noisy true (framingErrorPasses data mark s)
      else takeCharacter data mark noisy false (characterPasses data mark cut s)

/-- The last character of a frame has passed, and the decoder is WAITING after it (R88, R107; log 4). A frame
under assembly is taken for the first characters of this one, whatever they spell: it counts nothing of its
own (R83, R87; the model's choice, log 22). -/
def framePasses (s : State) : State :=
  { characterEnds false (runEnds s) with access := s.access.lineBusy, decoder := .waiting }

/-- The length field of a frame is in range (R85). -/
def Frame.lengthInRange (f : Frame) : Bool :=
  match f.body with
  | .presence _ _ pairs => pairs.length ≤ 16
  | .post _ payload => 1 ≤ payload.length && payload.length ≤ 16
  | _ => true

/-- A foreign frame whose check byte matches arrives, where the line and the station can receive one
(R83, R88, R100, R138; log 17). -/
def arrival (f : Frame) (noisy : Bool) (s : State) : State :=
  if s.isDriving || s.monitor.isStuck || s.monitor.isSettling then s
  else if !f.lengthInRange then { discardFrame .malformed (framePasses s) with decoder := .skipping }
  else if !f.inRange then discardFrame .malformed (framePasses s)
  else foreignFrame f noisy (framePasses s)

/-- A frame that is an address clash from this source (R93). -/
def clashFrame (own source : Addr) : Frame :=
  { source := source, body := .object 1 (addrByte own) 1 0 }

/-- ADDRESS_CLASH (R93, R150). A station without an address has no clash (log 11). -/
def clashRow (source : Addr) (noisy : Bool) (s : State) : State :=
  if s.ownAddr = 0 then s else arrival (clashFrame s.ownAddr source) noisy s

/-- The receiver has a candidate start bit. -/
def Receiver.isStarting : Receiver → Bool
  | .starting _ _ => true
  | _ => false

/-- The receiver is SEARCHING or STARTING. -/
def Receiver.awaitsStart : Receiver → Bool
  | .searching => true
  | .starting _ _ => true
  | _ => false

/-- The idle age is brought to a value, and the gap limit is handed on where it lies between (R105). -/
def bringAge (target : Nat) (s : State) : State :=
  match s.monitor with
  | .idle elapsed age =>
    let s := { s with monitor := .idle (max elapsed (8 * target)) (max age target) }
    if age < 4 ∧ 4 ≤ target then gapReached s else s
  | _ => s

/-- GAP_LIMIT (R87, R105): a candidate holds the idle age back (R106). Given while the station drives, the row
is taken and the attempt goes on, with no drive fault (R137; the model's choice, log 35). -/
def gapLimitRow (s : State) : State :=
  if s.monitor.isIdle && !s.receiver.isStarting then gapReached (bringAge 4 s) else s

/-- SETTLING_END (R104): twelve recessive bit times have passed. -/
def settlingEndRow (s : State) : State :=
  if s.monitor.isSettling then settlingEnds { runEnds s with receiver := .searching } else s

/-- LONG_DOMINANT (R111): once for a run, in every monitor state. R111 finds the monitor BUSY, SETTLING or STUCK
then; given in IDLE the row is taken all the same and leaves IDLE (the model's choice, log 30). The receiver
stays as it is, even where no framing error made it RECOVERING before (the model's choice, log 33). -/
def longDominantRow (s : State) : State :=
  if s.longMark || s.isDriving then s
  else longDominantReached { s with run := some (max (s.run.getD 0) 88), monitor := s.monitor.noRecessive }

/-- The receiver after a long dominant run (R103). -/
def Receiver.afterRun : Receiver → Receiver
  | .searching => .searching
  | _ => .recovering

/-- STUCK_BEGIN (R112): the station is not driving then. R112 enters STUCK from SETTLING or BUSY; given in IDLE
the row is taken all the same (the model's choice, log 30). A run that was not declared long before gets its
long mark here and is never counted as LONG_DOMINANT (the model's choice, log 32). -/
def stuckBeginRow (s : State) : State :=
  if s.monitor.isStuck || s.isDriving then s
  else
    stuckBegins
      { s with run := some (max (s.run.getD 0) 880), longMark := true, receiver := s.receiver.afterRun }

/-- STUCK_END (R113): twelve recessive bit times have passed. -/
def stuckEndRow (s : State) : State :=
  if s.monitor.isStuck then stuckEnds { runEnds s with receiver := .searching } else s

/-- The samples from now to point 6 of the candidate start bit (R100; log 24). -/
def Receiver.toPointSix : Receiver → Nat
  | .searching => 6
  | .starting p _ => 6 - p
  | _ => 0

/-- The recessive count at point 6 of a verified start bit: a noisy one reads recessive at point 6 alone
(R102, R104; log 24). -/
def Monitor.afterVerified (noisy : Bool) : Monitor → Monitor
  | .settling _ => .settling (if noisy then 1 else 0)
  | m => m

/-- The line at point 6 of a start bit that is verified there: dominant from point 1 to point 5, since an edge
at points 2 to 6 would have moved it (R102), and recessive at point 6 if its samples disagreed (R108, R110;
log 24). -/
def reachVerified (noisy : Bool) (s : State) : State :=
  { s with
    run := if noisy then none else some 5, longMark := false
    monitor := s.monitor.afterVerified noisy }

/-- The counts of the Line Monitor at point 6 of a candidate that is judged false: it has been dominant at no
sample behind those already taken, and at point 1 (R104, R106; log 24). -/
def Monitor.afterFalse (r : Receiver) : Monitor → Monitor
  | .settling n => .settling (match r with
      | .searching => 5
      | _ => n + r.toPointSix)
  | .idle elapsed age => .idle (elapsed + r.toPointSix) age
  | m => m

/-- The line at point 6 of a candidate that is judged false there: the dominant run has ended (R108, R110;
log 24). -/
def reachFalse (s : State) : State :=
  { s with
    run := none, longMark := false
    monitor := s.monitor.afterFalse s.receiver }

/-- The receiver can judge a candidate: it searches for one or has one, outside STUCK (R100). -/
def State.awaitsVerdict (s : State) : Bool := s.receiver.awaitsStart && !s.monitor.isStuck

/-- START_BIT_VERIFIED (R100, R106): too late for an own start bit whose point 6 has passed (R137). Given in
SEARCHING, its edge comes at the idle age of the state, and no age is handed on (the model's choice, log 34). -/
def startBitVerifiedRow (noisy : Bool) (s : State) : State :=
  if s.awaitsVerdict then
    startVerified noisy (reachVerified noisy (driveToVerdict s.receiver.toPointSix s))
  else s

/-- FALSE_START (R100, R106): an own start bit whose point 6 passes before the verdict is lost there (R137). -/
def falseStartRow (s : State) : State :=
  if s.awaitsVerdict then startFalse (reachFalse (driveToVerdict s.receiver.toPointSix s)) else s

/-- FIRST_RECESSIVE_SAMPLE (R99, R107): the sample itself counts in SETTLING and STUCK (R104, R113). -/
def firstRecessiveRow (s : State) : State :=
  match s.receiver with
  | .recovering =>
    { runEnds s with receiver := .searching, monitor := s.monitor.moreRecessive.released }
  | _ => s

/-! ### The rows of the Access Engine -/

/-- The idle age at which a waiting station begins: at its slot before that is reached, and on the open line
after it (the table of R130; log 10). -/
def State.beginAge (s : State) (age : Nat) : Nat :=
  match s.access with
  | .slotWait => if age < s.slot then s.slot else openAge
  | _ => openAge

/-- The station is ready: it waits with an order (R130). -/
def State.isWaiting (s : State) : Bool :=
  (match s.access with
    | .slotWait => true
    | .openWait => true
    | _ => false) && !s.noOrders

/-- ATTEMPT_BEGIN (R130): a candidate start bit lets a station begin only on a line that is open (R106,
R143). The gap limit may change the rank, so the slot is read after it (R129). -/
def attemptBeginRow (s : State) : State :=
  match s.monitor with
  | .idle _ age =>
    if s.isWaiting && s.station.transmits && (!s.receiver.isStarting || openAge ≤ age) then
      let s := bringAge (max age 4) s
      beginAttempt (bringAge (s.beginAge (max age 4)) s)
    else s
  | _ => s

/-- YIELD (R138): every bit before was read as driven, so the start bit was verified in time (R106,
R137; log 24). -/
def yieldRow (s : State) : State :=
  if s.isDriving then
    let s := if s.awaitsVerdict then startVerified false (reachVerified false s) else s
    match s.access with
    | .driving a => endInYield a { s with monitor := s.monitor.verified }
    | _ => s
  else s

/-- DRIVE_FAULT (R139): at any bit of the attempt, with the line as it stands (log 36). -/
def driveFaultRow (s : State) : State :=
  match s.access with
  | .driving a => endInDriveFault a s
  | _ => s

/-- ATTEMPT_COMPLETES (R140). -/
def attemptCompletesRow (noisy : Bool) (s : State) : State :=
  match s.access with
  | .driving a => ownArrival a noisy (framePasses s)
  | _ => s

end Sys2Proof.Machine
end

