-- ==== Sys2Proof/WellFormed.lean ====
section
/-! DEFINITION. When a command row names an event that can occur: the ranges its operands must lie in.
The machine does not rest on these checks; it judges every operand itself. -/

namespace Sys2Proof

/-- A key of a frame or of an entry: 1..254 (R1, R88). -/
def keyInRange (k : Byte) : Bool := k != 0 && k != 255

/-- A command code of 12.3 (R170). -/
def knownCommandCode (c : Byte) : Bool := 0x01 ≤ c && c ≤ 0x0B

/-- The operands of a row lie in the ranges the spec gives them: an arrival's fields pass R88, a record
fits the 32 bytes of R170, and the rows about unknown codes carry unknown codes. -/
def Instr.wellFormed : Instr → Bool
  | .unknownTransactionCode c _ => !knownTransactionCode c
  | .commandRefused record => record.length ≤ 32
  | .unknownCommand c fields => !knownCommandCode c && fields.length ≤ 31
  | .establish fields => fields.length ≤ 31
  | .ask fields => fields.length ≤ 31
  | .release fields => fields.length ≤ 31
  | .watch fields => fields.length ≤ 31
  | .unwatch fields => fields.length ≤ 31
  | .query fields => fields.length ≤ 31
  | .roster fields => fields.length ≤ 31
  | .post fields => fields.length ≤ 31
  | .leave fields => fields.length ≤ 31
  | .restart fields => fields.length ≤ 31
  | .counters fields => fields.length ≤ 31
  | .character _ _ _ framingError cut => !(framingError && cut)
  | .presenceArrival source _ _ pairs _ =>
    source != 0 && pairs.length ≤ 16 && pairs.all fun p => keyInRange p.1
  | .askArrival source key _ => source != 0 && keyInRange key
  | .objectArrival source key precedent reason _ _ =>
    source != 0 && keyInRange key && precedent ≤ 31 && (reason == 1 || reason == 2)
  | .holdArrival source key _ _ => source != 0 && keyInRange key
  | .freeArrival source key _ _ _ => source != 0 && keyInRange key
  | .postArrival source destination payload _ =>
    source != 0 && destination ≤ 31 && 1 ≤ payload.length && payload.length ≤ 16
  | .addressClash source _ => source != 0
  | .windowExpiry key => keyInRange key
  | .deferralExpiry key => keyInRange key
  | .peerSilent peer => peer != 0
  | .hardReset _ => true
  | .status _ => true
  | .fetchResult _ => true
  | .fetchNotice _ => true
  | .fetchMail _ => true
  | .gapLimit => true
  | .settlingEnd => true
  | .longDominant => true
  | .stuckBegin => true
  | .stuckEnd => true
  | .attemptBegin => true
  | .yield => true
  | .driveFault => true
  | .attemptCompletes _ => true
  | .listenExpiry => true
  | .leaveLimitExpiry => true
  | .presencePeriod => true
  | .silenceCountExpiry => true
  | .startBitVerified _ => true
  | .falseStart => true
  | .firstRecessiveSample => true

end Sys2Proof
end

