-- ==== Sys2Proof/Machine/Port.lean ====
section
/-! DEFINITION. The Local Port: transactions, the taking of commands, fetches, COUNTERS (chapter 11), and
hard reset (R146). -/

namespace Sys2Proof.Machine

/-! ### Transactions (11.1, 11.2) -/

/-- The bytes the part sends in a transaction of `n` clocked bytes: the status bytes, the response, filler
(R166). -/
def sentBytes (status0 status1 : Byte) (response : List Byte) (n : Nat) : List Byte :=
  ([status0, status1] ++ response ++ List.replicate n 0).take n

/-- The reported sticky flags are cleared at the rise of SEL_N; `errorAgain` says that port_error was set
again in this transaction (R169). -/
def clearSticky (status0 : Byte) (clocked : Nat) (errorAgain : Bool) (s : State) : State :=
  { s with
    refused := stickyAfter s.refused (status0.getLsbD 4) (2 ≤ clocked) false
    portError := stickyAfter s.portError (status0.getLsbD 3) (2 ≤ clocked) errorAgain }

/-- SEL_N falls: both status bytes are taken (R166, R168). R114 gives the monitor state as of the moment at
which the status byte is sent, and the model follows R166 and R168 (log 28). -/
def selectPort (s : State) : State :=
  match s.port with
  | .none => { s with port := .selected s.status0 s.status1 }
  | _ => s

/-- The response of a transaction as it is taken with the code, and whether it is a record of a store
(R164, R167, R172, R176). -/
def State.responseOf (s : State) : Transaction → List Byte × Bool
  | .fetchResult => match s.result with
    | some r => (r, true)
    | none => (noneResult, false)
  | .fetchNotice => match s.notices with
    | n :: _ => (n.bytes, true)
    | [] => (noneNotice, false)
  | .fetchMail => match s.mailbox with
    | m :: _ => (m.bytes, true)
    | [] => (noneMail, false)
  | _ => ([], false)

/-- The transaction is one of an unknown code. -/
def Transaction.isUnknown : Transaction → Bool
  | .unknown _ => true
  | _ => false

/-- An unknown code sets port_error and is counted when it is taken (R167). -/
def noteCode (tx : Transaction) (s : State) : State :=
  if tx.isUnknown then { count .portErrors s with portError := true } else s

/-- The transaction code is taken (R167). -/
def takeCode (tx : Transaction) (s : State) : State :=
  match s.port with
  | .selected a b =>
    noteCode tx { s with port := .running tx a b (s.responseOf tx).1 (s.responseOf tx).2 }
  | _ => s

/-- The head of the Notice Queue after a complete FETCH NOTICE that returned these bytes: removed, but a
LOST_NOTICES record whose count has risen since stays with the difference (R176). -/
def removeNotice (returned : List Byte) : List Notice → List Notice
  | .lostNotices n :: rest =>
    if returned = (Notice.lostNotices n).bytes then rest
    else .lostNotices (n - (returned[1]?.getD 0).toNat) :: rest
  | _ :: rest => rest
  | [] => []

/-- A record that was clocked in full leaves its store (R164, R172, R176). -/
def removeRecord (tx : Transaction) (returned : List Byte) (s : State) : State :=
  match tx with
  | .fetchResult => { s with result := none }
  | .fetchNotice => { s with notices := removeNotice returned s.notices }
  | .fetchMail => { s with mailbox := s.mailbox.drop 1 }
  | _ => s

/-- SEL_N rises after `n` clocked bytes (R164, R166, R167, R169, R172, R176). A transaction whose code was
not clocked has no effect. -/
def raiseSelect (n : Nat) (s : State) : State :=
  match s.port with
  | .running tx a b response offered =>
    let s := clearSticky a n tx.isUnknown { s with port := .none, sdo := sentBytes a b response n }
    if offered && 2 + response.length ≤ n then removeRecord tx response s else s
  | .selected a b => { s with port := .none, sdo := sentBytes a b [] n }
  | .none => s

/-- The port runs a transaction of another code. -/
def State.portBusy (s : State) (tx : Transaction) : Bool :=
  match s.port with
  | .running other _ _ _ _ => other != tx
  | _ => false

/-- A transaction brought to a stage (R166, R167). A transaction in progress is never a second one: a row of
another code is not taken (log 7). -/
def transact (tx : Transaction) (stage : PortStage) (s : State) : State :=
  if s.portBusy tx then s
  else match stage with
    | .select => selectPort s
    | .code => takeCode tx (selectPort s)
    | .rise n =>
      match s.port with
      | .running _ _ _ _ _ => raiseSelect (max n 1) s
      | _ => if n = 0 then raiseSelect 0 (selectPort s) else raiseSelect n (takeCode tx (selectPort s))

/-! ### Commands (11.3) -/

/-- COUNTERS past the length check: the values are copied and cleared at one moment (R179). -/
def countersCommand (s : State) : State :=
  answer .done cmdCounters s.counters.bytes { s with counters := Counters.zero }

/-- A record with a known code and a wrong length (step 4 of R170). -/
def badLength (code : Byte) (s : State) : State := answer .badLength code [] s

/-- A command with one field, a key, given to its owner (steps 4 and 5 of R170). -/
def takeKeyCommand (code : Byte) (owner : Byte → State → State) (fields : List Byte) (s : State) : State :=
  match fields with
  | [k] => owner k s
  | _ => badLength code s

/-- A command without fields given to its owner (steps 4 and 5 of R170). -/
def takeBareCommand (code : Byte) (owner : State → State) (fields : List Byte) (s : State) : State :=
  match fields with
  | [] => owner s
  | _ => badLength code s

/-- ESTABLISH given to its owner (steps 4 and 5 of R170). -/
def takeEstablish (fields : List Byte) (s : State) : State :=
  match fields with
  | [su, w, retry, mask, bcast] => establishCommand su w retry mask bcast s
  | _ => badLength cmdEstablish s

/-- ASK given to its owner (steps 4 and 5 of R170). -/
def takeAsk (fields : List Byte) (s : State) : State :=
  match fields with
  | [k, mode] => askCommand k mode s
  | _ => badLength cmdAsk s

/-- POST given to its owner, which judges its length field (step 4 of R170, R159). -/
def takePostCommand (fields : List Byte) (s : State) : State :=
  match fields with
  | destination :: tag :: length :: payload => postCommand destination tag length payload s
  | _ => badLength cmdPost s

/-- Steps 3 to 5 of R170: the command goes to its owner when its code is one of 12.3. -/
def ownerTakes (code : Byte) (fields : List Byte) (s : State) : State :=
  if code = cmdEstablish then takeEstablish fields s
  else if code = cmdAsk then takeAsk fields s
  else if code = cmdRelease then takeKeyCommand code releaseCommand fields s
  else if code = cmdWatch then takeKeyCommand code watchCommand fields s
  else if code = cmdUnwatch then takeKeyCommand code unwatchCommand fields s
  else if code = cmdQuery then takeKeyCommand code queryCommand fields s
  else if code = cmdRoster then takeBareCommand code rosterCommand fields s
  else if code = cmdPost then takePostCommand fields s
  else if code = cmdLeave then takeBareCommand code leaveCommand fields s
  else if code = cmdRestart then takeBareCommand code restartCommand fields s
  else if code = cmdCounters then takeBareCommand code countersCommand fields s
  else answer .unknownCommand code [] s

/-- A command record judged at the rise of SEL_N (R170). -/
def takeRecord (record : List Byte) (s : State) : State :=
  match record with
  | [] => { count .portErrors s with portError := true }
  | code :: fields =>
    if s.result.isSome then { count .commandsRefused s with refused := true }
    else ownerTakes code fields s

/-- A COMMAND transaction ends: the reported flags are cleared, and the first 32 bytes after the code are
the record (R166, R169, R170). -/
def endCommand (status0 status1 : Byte) (record : List Byte) (s : State) : State :=
  let n := record.length + 1
  let s := clearSticky status0 n false { s with port := .none, sdo := sentBytes status0 status1 [] n }
  takeRecord (record.take 32) s

/-- A whole COMMAND transaction with these bytes after its code; SEL_N may have fallen before (R166, R170).
It is not taken while the port runs another transaction (log 7). -/
def commandTransaction (record : List Byte) (s : State) : State :=
  match s.port with
  | .none => endCommand s.status0 s.status1 record s
  | .selected a b => endCommand a b record s
  | .running _ _ _ _ _ => s

/-! ### Hard reset (9.1) -/

/-- RESET_N is low: every block is held in its initial state, TXD released, SDO at high impedance, ATTN_N
high and the transaction dropped (R146, R166; log 8). The straps keep their last sample. -/
def holdInReset (s : State) : State :=
  { State.initial s.ownAddr s.rate with
    inReset := true, sdo := s.sdo, pending := s.pending, line := s.line, freeCount := s.freeCount }

/-- RESET_N rises: the straps are sampled and every block starts from its initial state (R145, R146). -/
def releaseReset (addr : Addr) (rate : BitVec 2) (s : State) : State :=
  { State.initial addr rate with
    sdo := s.sdo, pending := s.pending, line := s.line, freeCount := s.freeCount }

end Sys2Proof.Machine
end

