-- ==== Sys2Proof/Machine/Tick.lean ====
section
/-! DEFINITION. The tick: what time alone does to the block when no command waits. One tick is one eighth of
a bit time and ends with one sample point of the Line Receiver (R99; log 2, log 18). -/

namespace Sys2Proof.Machine

/-! ### The clocks -/

/-- A claim after `dt`: the timers of R8. -/
def Claim.after (dt : Time) : Claim → Claim
  | .asking (some w) => .asking (some (w - dt))
  | .peerAsking a d => .peerAsking a (d - dt)
  | c => c

/-- A Roster entry after `dt`; the age stops at the timeout in force (R61, R64). -/
def Peer.after (dt limit : Time) (p : Peer) : Peer := { p with age := min limit (p.age + dt) }

/-- The presence count reaches T_s/4 in this tick, in a state in which that requests a PRESENCE (R70). -/
def State.presenceCrosses (s : State) : Bool :=
  match s.own.presence with
  | some t =>
    (s.station == .listening || s.station == .active) && t < s.presencePeriod &&
      s.presencePeriod ≤ t + sampleTime s.rate
  | none => false

/-- The presence count after `dt`: it stops at T_s/4, and the value before a crossing stands until
`presenceDue` takes the crossing at the end of the same tick (R70). -/
def State.presenceAfter (s : State) (dt : Time) : Option Time :=
  if s.presenceCrosses then s.own.presence else s.own.presence.map fun t => min s.presencePeriod (t + dt)

/-- The own entry after `dt`; the listen timer pauses with the Line Monitor (R62, R69, R74). -/
def State.ownAfter (s : State) (dt : Time) : OwnEntry :=
  { s.own with
    silence := s.own.silence.map fun t => min s.halfSilence (t + dt)
    presence := s.presenceAfter dt
    listen := if s.monitor.timersRun then s.own.listen.map (· - dt) else s.own.listen }

/-- The table after `dt`; claim timers pause with the Line Monitor (R9). -/
def State.tableAfter (s : State) (dt : Time) : List (Option Entry) :=
  if s.monitor.timersRun then
    s.table.map fun place => place.map fun e => { e with claim := e.claim.after dt }
  else s.table

/-- Every timer and count of the protocol advanced by one tick (R9, R64, R69, R74, R152). -/
def advanceClocks (s : State) : State :=
  let dt := sampleTime s.rate
  { s with
    table := s.tableAfter dt
    roster := s.roster.map fun place => place.map fun p => p.after dt s.silenceTimeout
    own := s.ownAfter dt
    leaveLimit := s.leaveLimit.map (· - dt) }

/-! ### The events of one moment -/

/-- The events that time brings about. -/
inductive TickEvent where
  | sample
  | claim (key : Byte)
  | peer (address : Addr)
  | presence
  | silence
  | listen
  | leave
  deriving DecidableEq, Repr

/-- The age of the peer has reached the timeout (R64). -/
def State.peerDue (s : State) (p : Addr) : Bool :=
  match s.peer p with
  | some e => s.silenceTimeout ≤ e.age
  | none => false

/-- The silence count has reached T_s/2 (R72). -/
def State.silenceCountDue (s : State) : Bool :=
  match s.own.silence with
  | some t => s.halfSilence ≤ t
  | none => false

/-- The leave limit stands at zero (R152). -/
def State.leaveDue (s : State) : Bool := s.leaveLimit == some 0

/-- The addresses whose age has reached the timeout, in ascending order. -/
def State.duePeers (s : State) : List Addr :=
  ((List.range 32).map fun i => BitVec.ofNat 5 i).filter s.peerDue

/-- The events of this moment, the sample among them, in one fixed order. Whether the presence count has come
to T_s/4 is a matter of the tick that ends here: in the state after it a count that reaches T_s/4 in the next
tick cannot be told from one that was held back for this one (R70). -/
def State.dueEvents (s : State) (presence : Bool) : List TickEvent :=
  [.sample] ++ ((s.keysAscending.filter s.claimDue).map .claim) ++ (s.duePeers.map .peer) ++
  (if presence then [.presence] else []) ++ (if s.silenceCountDue then [.silence] else []) ++
  (if s.listenDue then [.listen] else []) ++ (if s.leaveDue then [.leave] else [])

/-- The declarations of one moment in ascending order of address (R64), in the places that the free order gave
them. -/
def declareInOrder : List Addr → List TickEvent → List TickEvent
  | p :: ps, .peer _ :: es => .peer p :: declareInOrder ps es
  | ps, e :: es => e :: declareInOrder ps es
  | _, [] => []

/-! ### The sample point -/

/-- What comes about at the moment of a sample point before the sample is read: the ends of bit times (R99,
R103 to R105, R113). -/
def moment (s : State) : State :=
  match s.monitor with
  | .settling n => if 96 ≤ n then settlingEnds s else s
  | .stuck n => if 96 ≤ n then stuckEnds s else s
  | .idle elapsed age =>
    let s := { s with monitor := .idle (elapsed + 1) age }
    if s.receiver.isStarting then s else catchUp s
  | .busy => s

/-- The end of a bit: a clean stop bit delivers its character (R103); otherwise the counts of the Line
Monitor go on. -/
def bitEnds (s : State) : State :=
  match s.receiver with
  | .receiving r => if r.bit = 10 ∧ 8 ≤ r.point then deliverCharacter r false s else moment s
  | _ => moment s

/-- The own drive goes on by one sample (R136), and the world outside by one as well (log 3). -/
def driveOn (s : State) : State :=
  { s with
    line := s.line.drop 1
    access := match s.access with
      | .driving a => .driving (a.driveFor 1)
      | other => other }

/-- The runs of R104, R108, R111 to R113 with this sample. A stuck line is entered only after the own attempt has
ended (R112, R136). -/
def measureRun (level : Level) (s : State) : State :=
  match level with
  | .recessive => { s with run := none, longMark := false, monitor := s.monitor.moreRecessive }
  | .dominant =>
    let n := match s.run with
      | none => 0
      | some m => m + 1
    let s := { s with run := some n, monitor := s.monitor.noRecessive }
    if 88 ≤ n ∧ s.longMark = false then longDominantReached s
    else if 880 ≤ n ∧ s.monitor.isStuck = false ∧ s.isDriving = false then stuckBegins s
    else s

/-- No start bit has been verified by point 6 of the station's own start bit: it was read recessive
(R101, R137). Behind the last stop bit the station has no start bit, however late that bit is taken
(R102, R140). -/
def startOverdue (s : State) : State :=
  match s.access with
  | .driving a => if a.startLapsed then endInDriveFault a s else s
  | _ => s

/-- One sample point (R99). The Line Receiver takes the sample before the own start bit is judged overdue, so a
late stop bit of the character before that reads dominant at own point 6 is a yield and no drive fault: R137
fixes no order of the two checks of that moment (the model's choice, log 27). -/
def samplePoint (s : State) : State :=
  let s := settled bitEnds s
  let level := s.lineLevel
  let edge := level == .dominant && s.run.isNone
  startOverdue (receive level edge (measureRun level (driveOn s)))

/-! ### The tick -/

/-- One event of the moment, if it still stands when it is taken (R8, R16, R66, R157). -/
def fireEvent (e : TickEvent) (s : State) : State :=
  match e with
  | .sample => samplePoint s
  | .claim k => claimTimerExpires k s
  | .peer p => if s.peerDue p then peerGoesSilent p s else s
  | .presence => if s.presenceCrosses then presenceDue s else s
  | .silence => if s.silenceCountDue then silenceDue s else s
  | .listen => if s.listenDue then listenExpires s else s
  | .leave => if s.leaveDue then leaveLimitExpires s else s

/-- The events of the moment, one after the other. -/
def fireEvents (es : List TickEvent) (s : State) : State := es.foldl (fun t e => settled (fireEvent e) t) s

/-- A station that waits on an open line begins at once (R130; log 9). -/
def beginOnOpenLine (s : State) : State :=
  match s.monitor with
  | .idle _ age => if openAge ≤ age && s.isWaiting then beginAttempt s else s
  | _ => s

/-- One eighth of a bit time passes with no command (log 2). While RESET_N is low no block acts (R146). -/
def tick (s : State) : State :=
  if s.inReset then { s with line := s.line.drop 1 }
  else
    let s := settled beginOnOpenLine s
    let t := advanceClocks s
    let events := declareInOrder t.duePeers (freeOrder t.freeCount (t.dueEvents s.presenceCrosses))
    fireEvents events (useFree events.length t)

end Sys2Proof.Machine
end

