-- ==== Sys2Proof/Machine/AccessRows.lean ====
section
/-! DEFINITION. The meanings of the events of the Access Engine. -/

namespace Sys2Proof.Machine

/-- ATTEMPT_BEGIN (R130). -/
def execAttemptBegin (s : State) : Host.Outcome State Fault Refusal :=
  live attemptBeginRow s

/-- YIELD (R138). -/
def execYield (s : State) : Host.Outcome State Fault Refusal :=
  live yieldRow s

/-- DRIVE_FAULT (R139). -/
def execDriveFault (s : State) : Host.Outcome State Fault Refusal :=
  live driveFaultRow s

/-- ATTEMPT_COMPLETES (R140). -/
def execAttemptCompletes (noisy : Bool) (s : State) : Host.Outcome State Fault Refusal :=
  live (attemptCompletesRow noisy) s


end Sys2Proof.Machine
end

