-- ==== Sys2Proof/Machine/ArrivalRows.lean ====
section
/-! DEFINITION. The meanings of the arrivals of foreign frames. -/

namespace Sys2Proof.Machine

/-- PRESENCE_ARRIVAL (R53, R63, R65, R73). -/
def execPresenceArrival (source : Addr) (joining leaving : Bool) (pairs : List (Byte × Byte)) (noisy : Bool)
    (s : State) : Host.Outcome State Fault Refusal :=
  live (arrival { source := source, body := .presence joining leaving pairs } noisy) s

/-- ASK_ARRIVAL (R25 to R27). -/
def execAskArrival (source : Addr) (key : Byte) (noisy : Bool) (s : State) :
    Host.Outcome State Fault Refusal :=
  live (arrival { source := source, body := .ask key } noisy) s

/-- OBJECT_ARRIVAL (R28 to R30, R56). -/
def execObjectArrival (source : Addr) (key precedent reason gen : Byte) (noisy : Bool) (s : State) :
    Host.Outcome State Fault Refusal :=
  live (arrival { source := source, body := .object key precedent reason gen } noisy) s

/-- HOLD_ARRIVAL (R34, R35, R56). -/
def execHoldArrival (source : Addr) (key gen : Byte) (noisy : Bool) (s : State) :
    Host.Outcome State Fault Refusal :=
  live (arrival { source := source, body := .hold key gen } noisy) s

/-- FREE_ARRIVAL (R45 to R47). -/
def execFreeArrival (source : Addr) (key gen : Byte) (withdrawn noisy : Bool) (s : State) :
    Host.Outcome State Fault Refusal :=
  live (arrival { source := source, body := .free key gen withdrawn } noisy) s

/-- POST_ARRIVAL (R162, R163). -/
def execPostArrival (source : Addr) (destination : Byte) (payload : List Byte) (noisy : Bool) (s : State) :
    Host.Outcome State Fault Refusal :=
  live (arrival { source := source, body := .post destination payload } noisy) s

/-- ADDRESS_CLASH (R93, R150). -/
def execAddressClash (source : Addr) (noisy : Bool) (s : State) : Host.Outcome State Fault Refusal :=
  live (clashRow source noisy) s


end Sys2Proof.Machine
end

