-- ==== Sys2Proof/Machine/CommandRows.lean ====
section
/-! DEFINITION. The meanings of the eleven commands of the host. -/

namespace Sys2Proof.Machine

/-- ESTABLISH (R148, R149), given by a COMMAND transaction (R170). -/
def execEstablish (fields : List Byte) (s : State) : Host.Outcome State Fault Refusal :=
  live (commandTransaction (cmdEstablish :: fields)) s

/-- ASK (R18, R19), given by a COMMAND transaction (R170). -/
def execAsk (fields : List Byte) (s : State) : Host.Outcome State Fault Refusal :=
  live (commandTransaction (cmdAsk :: fields)) s

/-- RELEASE (R39), given by a COMMAND transaction (R170). -/
def execRelease (fields : List Byte) (s : State) : Host.Outcome State Fault Refusal :=
  live (commandTransaction (cmdRelease :: fields)) s

/-- WATCH (R12), given by a COMMAND transaction (R170). -/
def execWatch (fields : List Byte) (s : State) : Host.Outcome State Fault Refusal :=
  live (commandTransaction (cmdWatch :: fields)) s

/-- UNWATCH (R13), given by a COMMAND transaction (R170). -/
def execUnwatch (fields : List Byte) (s : State) : Host.Outcome State Fault Refusal :=
  live (commandTransaction (cmdUnwatch :: fields)) s

/-- QUERY (R14), given by a COMMAND transaction (R170). -/
def execQuery (fields : List Byte) (s : State) : Host.Outcome State Fault Refusal :=
  live (commandTransaction (cmdQuery :: fields)) s

/-- ROSTER (R78), given by a COMMAND transaction (R170). -/
def execRoster (fields : List Byte) (s : State) : Host.Outcome State Fault Refusal :=
  live (commandTransaction (cmdRoster :: fields)) s

/-- POST (R159), given by a COMMAND transaction (R170). -/
def execPost (fields : List Byte) (s : State) : Host.Outcome State Fault Refusal :=
  live (commandTransaction (cmdPost :: fields)) s

/-- LEAVE (R151), given by a COMMAND transaction (R170). -/
def execLeave (fields : List Byte) (s : State) : Host.Outcome State Fault Refusal :=
  live (commandTransaction (cmdLeave :: fields)) s

/-- RESTART (R156), given by a COMMAND transaction (R170). -/
def execRestart (fields : List Byte) (s : State) : Host.Outcome State Fault Refusal :=
  live (commandTransaction (cmdRestart :: fields)) s

/-- COUNTERS (R179), given by a COMMAND transaction (R170). -/
def execCounters (fields : List Byte) (s : State) : Host.Outcome State Fault Refusal :=
  live (commandTransaction (cmdCounters :: fields)) s


end Sys2Proof.Machine
end

