-- ==== Sys2Proof/Machine/LineRows.lean ====
section
/-! DEFINITION. The meanings of the events of the Line Receiver and the Line Monitor. -/

namespace Sys2Proof.Machine

/-- CHARACTER (R103). -/
def execCharacter (data : Byte) (mark noisy framingError cut : Bool) (s : State) :
    Host.Outcome State Fault Refusal :=
  live (characterRow data mark noisy framingError cut) s

/-- GAP_LIMIT (R87). -/
def execGapLimit (s : State) : Host.Outcome State Fault Refusal :=
  live gapLimitRow s

/-- SETTLING_END (R104). -/
def execSettlingEnd (s : State) : Host.Outcome State Fault Refusal :=
  live settlingEndRow s

/-- LONG_DOMINANT (R111). -/
def execLongDominant (s : State) : Host.Outcome State Fault Refusal :=
  live longDominantRow s

/-- STUCK_BEGIN (R112). -/
def execStuckBegin (s : State) : Host.Outcome State Fault Refusal :=
  live stuckBeginRow s

/-- STUCK_END (R113). -/
def execStuckEnd (s : State) : Host.Outcome State Fault Refusal :=
  live stuckEndRow s

/-- START_BIT_VERIFIED (R106). -/
def execStartBitVerified (noisy : Bool) (s : State) : Host.Outcome State Fault Refusal :=
  live (startBitVerifiedRow noisy) s

/-- FALSE_START (R100). -/
def execFalseStart (s : State) : Host.Outcome State Fault Refusal :=
  live falseStartRow s

/-- FIRST_RECESSIVE_SAMPLE (R107). -/
def execFirstRecessiveSample (s : State) : Host.Outcome State Fault Refusal :=
  live firstRecessiveRow s


end Sys2Proof.Machine
end

