-- ==== Sys2Proof/Machine/PortRows.lean ====
section
/-! DEFINITION. The meanings of HARD_RESET and of the transactions of the local port. -/

namespace Sys2Proof.Machine

/-- HARD_RESET: RESET_N low holds the machine in reset, its rise starts it (R146). -/
def execHardReset (edge : ResetEdge) (s : State) : Host.Outcome State Fault Refusal :=
  match edge with
  | .fall => .next (holdInReset s)
  | .rise addr rate => .next (releaseReset addr rate s)

/-- STATUS (R167, R169). -/
def execStatus (stage : PortStage) (s : State) : Host.Outcome State Fault Refusal :=
  live (transact .status stage) s

/-- UNKNOWN_TRANSACTION_CODE (R167). A code that is known is not this row, and is not taken (log 4). -/
def execUnknownTransactionCode (code : Byte) (stage : PortStage) (s : State) :
    Host.Outcome State Fault Refusal :=
  live (fun t => if knownTransactionCode code then t else transact (.unknown code) stage t) s

/-- FETCH RESULT (R172). -/
def execFetchResult (stage : PortStage) (s : State) : Host.Outcome State Fault Refusal :=
  live (transact .fetchResult stage) s

/-- FETCH NOTICE (R176). -/
def execFetchNotice (stage : PortStage) (s : State) : Host.Outcome State Fault Refusal :=
  live (transact .fetchNotice stage) s

/-- FETCH MAIL (R164). -/
def execFetchMail (stage : PortStage) (s : State) : Host.Outcome State Fault Refusal :=
  live (transact .fetchMail stage) s

/-- COMMAND_REFUSED: a COMMAND transaction with this record, judged as every record is (R170). -/
def execCommandRefused (record : List Byte) (s : State) : Host.Outcome State Fault Refusal :=
  live (commandTransaction record) s

/-- UNKNOWN_COMMAND: a COMMAND transaction whose record has this code (R170). -/
def execUnknownCommand (code : Byte) (fields : List Byte) (s : State) : Host.Outcome State Fault Refusal :=
  live (commandTransaction (code :: fields)) s


end Sys2Proof.Machine
end

