-- ==== Sys2Proof/Machine/TimerRows.lean ====
section
/-! DEFINITION. The meanings of the expiries of timers and counts. -/

namespace Sys2Proof.Machine

/-- WINDOW_EXPIRY (R31). -/
def execWindowExpiry (key : Byte) (s : State) : Host.Outcome State Fault Refusal :=
  live (windowExpires key) s

/-- DEFERRAL_EXPIRY (R36). -/
def execDeferralExpiry (key : Byte) (s : State) : Host.Outcome State Fault Refusal :=
  live (deferralExpires key) s

/-- LISTEN_EXPIRY (R75). -/
def execListenExpiry (s : State) : Host.Outcome State Fault Refusal :=
  live listenExpires s

/-- LEAVE_LIMIT_EXPIRY (R152). -/
def execLeaveLimitExpiry (s : State) : Host.Outcome State Fault Refusal :=
  live leaveLimitExpires s

/-- PEER_SILENT (R64). -/
def execPeerSilent (peer : Addr) (s : State) : Host.Outcome State Fault Refusal :=
  live (peerGoesSilent peer) s

/-- PRESENCE_PERIOD (R70). -/
def execPresencePeriod (s : State) : Host.Outcome State Fault Refusal :=
  live presenceDue s

/-- SILENCE_COUNT_EXPIRY (R72). -/
def execSilenceCountExpiry (s : State) : Host.Outcome State Fault Refusal :=
  live silenceDue s


end Sys2Proof.Machine
end

