-- ==== Sys2Proof/Machine/Dispatch.lean ====
section
/-! DEFINITION. One arm for every row of the table. -/

namespace Sys2Proof.Machine

/-- The effect of a row on everything but the queue. -/
def exec (i : Instr) (s : State) : Host.Outcome State Fault Refusal :=
  match i with
  | .hardReset edge => Sys2Proof.Machine.execHardReset edge s
  | .status stage => Sys2Proof.Machine.execStatus stage s
  | .unknownTransactionCode code stage => Sys2Proof.Machine.execUnknownTransactionCode code stage s
  | .fetchResult stage => Sys2Proof.Machine.execFetchResult stage s
  | .fetchNotice stage => Sys2Proof.Machine.execFetchNotice stage s
  | .fetchMail stage => Sys2Proof.Machine.execFetchMail stage s
  | .commandRefused record => Sys2Proof.Machine.execCommandRefused record s
  | .unknownCommand code fields => Sys2Proof.Machine.execUnknownCommand code fields s
  | .establish fields => Sys2Proof.Machine.execEstablish fields s
  | .ask fields => Sys2Proof.Machine.execAsk fields s
  | .release fields => Sys2Proof.Machine.execRelease fields s
  | .watch fields => Sys2Proof.Machine.execWatch fields s
  | .unwatch fields => Sys2Proof.Machine.execUnwatch fields s
  | .query fields => Sys2Proof.Machine.execQuery fields s
  | .roster fields => Sys2Proof.Machine.execRoster fields s
  | .post fields => Sys2Proof.Machine.execPost fields s
  | .leave fields => Sys2Proof.Machine.execLeave fields s
  | .restart fields => Sys2Proof.Machine.execRestart fields s
  | .counters fields => Sys2Proof.Machine.execCounters fields s
  | .character data mark noisy framingError cut => Sys2Proof.Machine.execCharacter data mark noisy framingError cut s
  | .gapLimit => Sys2Proof.Machine.execGapLimit s
  | .settlingEnd => Sys2Proof.Machine.execSettlingEnd s
  | .longDominant => Sys2Proof.Machine.execLongDominant s
  | .stuckBegin => Sys2Proof.Machine.execStuckBegin s
  | .stuckEnd => Sys2Proof.Machine.execStuckEnd s
  | .presenceArrival source joining leaving pairs noisy => Sys2Proof.Machine.execPresenceArrival source joining leaving pairs noisy s
  | .askArrival source key noisy => Sys2Proof.Machine.execAskArrival source key noisy s
  | .objectArrival source key precedent reason gen noisy => Sys2Proof.Machine.execObjectArrival source key precedent reason gen noisy s
  | .holdArrival source key gen noisy => Sys2Proof.Machine.execHoldArrival source key gen noisy s
  | .freeArrival source key gen withdrawn noisy => Sys2Proof.Machine.execFreeArrival source key gen withdrawn noisy s
  | .postArrival source destination payload noisy => Sys2Proof.Machine.execPostArrival source destination payload noisy s
  | .addressClash source noisy => Sys2Proof.Machine.execAddressClash source noisy s
  | .attemptBegin => Sys2Proof.Machine.execAttemptBegin s
  | .yield => Sys2Proof.Machine.execYield s
  | .driveFault => Sys2Proof.Machine.execDriveFault s
  | .attemptCompletes noisy => Sys2Proof.Machine.execAttemptCompletes noisy s
  | .windowExpiry key => Sys2Proof.Machine.execWindowExpiry key s
  | .deferralExpiry key => Sys2Proof.Machine.execDeferralExpiry key s
  | .listenExpiry => Sys2Proof.Machine.execListenExpiry s
  | .leaveLimitExpiry => Sys2Proof.Machine.execLeaveLimitExpiry s
  | .peerSilent peer => Sys2Proof.Machine.execPeerSilent peer s
  | .presencePeriod => Sys2Proof.Machine.execPresencePeriod s
  | .silenceCountExpiry => Sys2Proof.Machine.execSilenceCountExpiry s
  | .startBitVerified noisy => Sys2Proof.Machine.execStartBitVerified noisy s
  | .falseStart => Sys2Proof.Machine.execFalseStart s
  | .firstRecessiveSample => Sys2Proof.Machine.execFirstRecessiveSample s

end Sys2Proof.Machine
end

