-- ==== Sys2Proof/Safety.lean ====
section
/-! DEFINITION. The laws that every step keeps, and the conditions on a state that statements speak of. None
of them is read by the machine. -/

namespace Sys2Proof.Machine

/-! ### Conditions on a state -/

/-- The condition of the Access Engine follows the lanes: EMPTY only while both lanes are empty, SLOT_WAIT
and OPEN_WAIT only while an order stands (R128). -/
abbrev State.AccessFollows (s : State) : Prop :=
  (s.access = .empty → s.noOrders = true) ∧
  (s.access = .slotWait ∨ s.access = .openWait → s.noOrders = false)

/-- RESET_N is high and the port has no transaction in progress. -/
abbrev State.PortIdle (s : State) : Prop := s.inReset = false ∧ s.port = .none

/-- A command given now is judged past step 2 of R170: no transaction is in progress and the Result Slot is
empty. -/
abbrev State.TakesCommands (s : State) : Prop := s.PortIdle ∧ s.result = none

/-- The line is heard and this station does not drive: a foreign frame can arrive (R83, R92, R100). -/
abbrev State.Hears (s : State) : Prop :=
  s.inReset = false ∧ s.isDriving = false ∧ s.monitor.timersRun = true

/-- ... and no frame is under assembly, which the first character of the arriving one would break (R84, R87). -/
abbrev State.HearsAFrame (s : State) : Prop := s.Hears ∧ (s.decoder = .waiting ∨ s.decoder = .skipping)

/-- Entry number `n` of the Claim Table holds `e`, and no other entry carries its key (R1). -/
def State.EntryAt (s : State) (n : Nat) (e : Entry) : Prop :=
  s.table[n]? = some (some e) ∧
  ∀ m f, s.table[m]? = some (some f) → f.key = e.key → m = n

/-- The state of the port after a COMMAND transaction whose record has `n` bytes, before the record is
taken: both status bytes were clocked, so each sticky flag they showed is cleared (R166, R169). -/
def State.clocked (s : State) (n : Nat) : State :=
  { s with sdo := [s.status0, s.status1] ++ List.replicate (n - 1) 0, refused := false, portError := false }

/-- A result placed in the Result Slot: code, command, the station state given, fields (R182). -/
def State.answered (s : State) (code : ResultCode) (command : Byte) (fields : List Byte) : State :=
  { s with result := some (resultRecord code command s.station fields) }

/-- Entry `n` of the Claim Table replaced. -/
def State.putEntry (s : State) (n : Nat) (e : Entry) : State :=
  { s with table := s.table.set n (some e) }

/-- The fields of an ESTABLISH are in range for this line rate (step 3 of R148). -/
abbrev EstablishInRange (rate : BitVec 2) (su w retry mask bcast : Byte) : Prop :=
  1 ≤ su.toNat ∧ (rate = 0 → 21 ≤ w.toNat) ∧ (rate = 1 → 11 ≤ w.toNat) ∧ (rate = 2 → 6 ≤ w.toNat) ∧
  (rate = 3 → 3 ≤ w.toNat) ∧ 8 * w.toNat ≤ 16 * su.toNat ∧ 1 ≤ retry.toNat ∧ retry.toNat ≤ 15 ∧
  mask.toNat < 64 ∧ bcast.toNat ≤ 1

/-- The bytes of a transaction of `n` clocked bytes: both status bytes, the response, filler (R166). -/
def State.clockedOut (s : State) (response : List Byte) (n : Nat) : List Byte :=
  ([s.status0, s.status1] ++ response ++ List.replicate n 0).take n

/-- The state after a transaction of `n` clocked bytes that is not COMMAND: each sticky flag that was set is
cleared when both status bytes were clocked (R166, R169). -/
def State.readOut (s : State) (response : List Byte) (n : Nat) : State :=
  { s with
    sdo := s.clockedOut response n
    refused := s.refused && !decide (2 ≤ n), portError := s.portError && !decide (2 ≤ n) }

/-- The line after a clean character that ended at its own end: IDLE with idle age 0 and no dominant run, and
a waiting station is back before its slot (R103, R107, R108, R131). -/
def State.passed (s : State) : State :=
  { s with
    decoder := .waiting, receiver := .searching, monitor := .idle 0 0, run := none, longMark := false
    access := s.access.lineBusy }

/-- What every intact foreign frame does: FRAMES_OK, NOISY_FRAMES for a noisy one, last_source (R90, R92,
R114). -/
def State.tookFrame (s : State) (source : Addr) (noisy : Bool) : State :=
  { s.passed with
    lastSource := source
    counters := if noisy then (s.counters.bump .framesOk).bump .noisyFrames else s.counters.bump .framesOk }

/-- And what it does at the Presence Unit; `flag` is the joining flag of a PRESENCE (R63). -/
def State.heard (s : State) (source : Addr) (flag : Option Bool) (noisy : Bool) : State :=
  peerHeard source flag (s.tookFrame source noisy)

/-- The Frame Decoder dispatches frames to every block (R94). -/
abbrev State.DispatchesAll (s : State) : Prop := s.station ≠ .unconfigured ∧ s.station ≠ .offline

/-- A foreign station: an address that is neither 0 nor the own one. -/
abbrev State.Foreign (s : State) (p : Addr) : Prop := p ≠ 0 ∧ p ≠ s.ownAddr

/-- What an order is composed to now (R132 to R135). -/
def State.Composes (s : State) (o : Order) (b : Body) : Prop :=
  match o with
  | .urgent (.hold k) => ∃ e, s.entry k = some e ∧ b = .hold k e.gen
  | .urgent (.free k withdrawn) => ∃ e, s.entry k = some e ∧ b = .free k e.gen withdrawn
  | .urgent (.object k) => ∃ e, s.entry k = some e ∧
      ((e.claim = .mine ∧ b = .object k (addrByte s.ownAddr) 1 e.gen) ∨
       ((∃ t, e.claim = .asking (some t)) ∧ b = .object k (addrByte s.ownAddr) 2 e.gen))
  | .normal (.ask k) => (∃ e t, s.entry k = some e ∧ e.claim = .asking t) ∧ b = .ask k
  | .normal (.presence leaving) => b = .presence (s.station == .listening) leaving s.minePairs
  | .normal (.post p) => b = .post p.destination p.payload

/-- A frame handed back is returned to its lane, and not discarded (the table of R124). -/
def State.TakesBack (s : State) (o : Order) : Prop :=
  match o with
  | .urgent (.object k) => .object k ∉ s.urgent
  | .urgent (.hold k) =>
    .hold k ∉ s.urgent ∧ (∀ w, .free k w ∉ s.urgent) ∧ ∃ e, s.entry k = some e ∧ e.claim = .mine
  | .urgent (.free k _) => .hold k ∉ s.urgent ∧ ∀ w, .free k w ∉ s.urgent
  | .normal (.ask k) => .ask k ∉ s.normal ∧ ∃ e t, s.entry k = some e ∧ e.claim = .asking t
  | .normal (.presence _) => ∀ l, .presence l ∉ s.normal
  | .normal (.post _) => True

/-- The frame leaves the attempt slot, and stands at the head of its lane if `back` (R124, R138). -/
def State.handedBack (s : State) (o : Order) (back : Bool) : State :=
  { s with
    access := .slotWait
    urgent := match o with
      | .urgent u => if back then u :: s.urgent else s.urgent
      | .normal _ => s.urgent
    normal := match o with
      | .normal n => if back then n :: s.normal else s.normal
      | .urgent _ => s.normal }

/-- The entry's fields and the normal lane after its key has become FREE by a rule of the line: with want
WAIT the ask starts again, queued in ACTIVE and held elsewhere (R5, R37). -/
def State.freed (s : State) (n : Nat) (e : Entry) : State :=
  if e.want = .wait then
    { s.putEntry n { e with claim := .asking none } with
      normal := if s.station = .active then s.normal ++ [.ask e.key] else s.normal }
  else s.putEntry n { e with claim := .free }

/-- The notices of a list, produced in order (R173). -/
def produceAll (ns : List Notice) (s : State) : State := ns.foldl (fun t n => produce n t) s

/-- No entry names `q` as holder. -/
def State.HoldsNone (s : State) (q : Addr) : Prop := ∀ e, some e ∈ s.table → e.claim ≠ .theirs q

/-- No claim timer stands at zero but that of the place named, if one is, and the listen timer does not. -/
def State.NoZeroTimer (s : State) (place : Option Nat) : Prop :=
  (∀ i e, s.table[i]? = some (some e) → some i ≠ place →
    e.claim ≠ .asking (some 0) ∧ ∀ a, e.claim ≠ .peerAsking a 0) ∧ s.own.listen ≠ some 0

/-! ### The laws -/

/-- The Claim Table (R1, R2): 16 places; keys of 1..254, no two alike; the holder of a THEIRS entry and the
asker of a PEER_ASKING entry are other stations with an address. -/
def State.TableLaw (s : State) : Prop :=
  s.table.length = 16 ∧ (tableKeys s.table).Nodup ∧
  ∀ e, some e ∈ s.table →
    validKey e.key = true ∧
    (∀ h, e.claim = .theirs h → h ≠ 0 ∧ h ≠ s.ownAddr) ∧
    (∀ a d, e.claim = .peerAsking a d → a ≠ 0 ∧ a ≠ s.ownAddr)

/-- An ASK order stands in the normal lane or an ASK frame in the attempt slot. -/
def State.anyAsk (s : State) : Bool :=
  (s.normal.any fun o => match o with
    | .ask _ => true
    | _ => false) ||
  match s.slotOrder with
  | some (.normal (.ask _)) => true
  | _ => false

/-- Which entry states the station states allow, and when the lanes and the Access Engine stand still (R4,
R5, R18, R20, R126, R128). -/
def State.LifeLaw (s : State) : Prop :=
  (s.access = .off ↔ s.station.transmits = false) ∧
  (s.station.transmits = false → s.urgent = [] ∧ s.normal = []) ∧
  (s.station = .listening → s.anyAsk = false) ∧
  ∀ e, some e ∈ s.table →
    (e.claim = .mine → s.station = .active) ∧
    (∀ w, e.claim = .asking w → s.station = .listening ∨ s.station = .active) ∧
    (∀ t, e.claim = .asking (some t) → s.station = .active) ∧
    (e.want = .wait → s.station = .listening ∨ s.station = .active)

/-- The key of a state order. -/
def UrgentOrder.stateKey : UrgentOrder → Option Byte
  | .hold k => some k
  | .free k _ => some k
  | .object _ => none

/-- The key of an OBJECT order. -/
def UrgentOrder.objectKey : UrgentOrder → Option Byte
  | .object k => some k
  | _ => none

/-- The key of an ASK order. -/
def NormalOrder.askKey : NormalOrder → Option Byte
  | .ask k => some k
  | _ => none

/-- The key of an order that has one. -/
def Order.key : Order → Option Byte
  | .urgent o => some o.key
  | .normal o => o.askKey

/-- The state of the key's entry. -/
def State.claimOf (s : State) (k : Byte) : Option Claim := (s.entry k).map Entry.claim

/-- The lanes (R116, R119, R122): one state order and one OBJECT per key, only for keys with an entry, a HOLD
only while that entry is MINE; one ASK per key, only for an entry in ASKING whose ASK is not sent; one
PRESENCE; four posts with the attempt slot. The key of the frame in the attempt slot has an entry (R13). -/
def State.LaneLaw (s : State) : Prop :=
  (s.urgent.filterMap UrgentOrder.stateKey).Nodup ∧
  (s.urgent.filterMap UrgentOrder.objectKey).Nodup ∧
  (∀ o ∈ s.urgent, (s.entry o.key).isSome = true) ∧
  (∀ k, .hold k ∈ s.urgent → s.claimOf k = some .mine) ∧
  (s.normal.filterMap NormalOrder.askKey).Nodup ∧
  (∀ k, .ask k ∈ s.normal → s.claimOf k = some (.asking none)) ∧
  s.normal.countP NormalOrder.isPresence ≤ 1 ∧
  s.pendingPosts ≤ 4 ∧
  (∀ o k, s.slotOrder = some o → o.key = some k → (s.entry k).isSome = true) ∧
  (∀ k t, s.slotOrder = some (.normal (.ask k)) → s.claimOf k ≠ some (.asking (some t)))

/-- The Notice Queue (R173, R175): at most 31 records with no LOST_NOTICES among them, or such a run of at
most 31 with one LOST_NOTICES record of count up to 255 behind it. -/
def NoticesLaw (q : List Notice) : Prop :=
  (q.length ≤ 31 ∧ q.any Notice.isLost = false) ∨
  ∃ run n, q = run ++ [.lostNotices n] ∧ run.length ≤ 31 ∧ run.any Notice.isLost = false ∧ n ≤ 255

/-- The Mailbox (R163): at most 4 posts of 1 to 16 bytes, none with the own address as source. -/
def State.MailboxLaw (s : State) : Prop :=
  s.mailbox.length ≤ 4 ∧
  ∀ m ∈ s.mailbox, m.source ≠ 0 ∧ m.source ≠ s.ownAddr ∧ 1 ≤ m.payload.length ∧ m.payload.length ≤ 16

/-- The station's life (R128, R136, R139, R145, R148, R149, R151 to R154, R156): the Access Engine is OFF
exactly where no attempt is made; the station never drives while the Line Monitor is SETTLING or STUCK; the
configuration is absent exactly in UNCONFIGURED, and in range while it stands; the leave limit stands exactly
in LEAVING; the drive-fault count stays below the retry limit while the station transmits. -/
def State.StationLaw (s : State) : Prop :=
  (s.access = .off ↔ s.station.transmits = false) ∧
  (s.isDriving = true → s.monitor.isSettling = false ∧ s.monitor.isStuck = false) ∧
  (s.config = none ↔ s.station = .unconfigured) ∧
  (s.leaveLimit = none ↔ s.station ≠ .leaving) ∧
  ∀ c, s.config = some c →
    1 ≤ c.silenceUnit.toNat ∧ minimumWindow s.rate ≤ c.window.toNat ∧
    8 * c.window.toNat ≤ 16 * c.silenceUnit.toNat ∧ 1 ≤ c.retryLimit.toNat ∧ c.retryLimit.toNat ≤ 15 ∧
    c.mask.toNat < 64 ∧ (s.station.transmits = true → s.driveFaults < c.retryLimit.toNat)

/-- The Roster (R61 to R64, R67, R78): 32 places, those of address 0 and of the own address never PRESENT; a
PRESENT entry has heard 1..255 frames and its age has not passed the silence timeout in force. -/
def State.RosterLaw (s : State) : Prop :=
  s.roster.length = 32 ∧ s.peer 0 = none ∧ s.peer s.ownAddr = none ∧
  ∀ p e, s.peer p = some e → 1 ≤ e.frames ∧ e.frames ≤ 255 ∧ e.age ≤ s.silenceTimeout

end Sys2Proof.Machine
end

