-- ==== Sys2Proof/Certificates/Slice0/Obligations.lean ====
section
/-! DEFINITION. The statements for the provers. Each cites its rule; OBLIGATIONS.json says the same in words. -/

open Sys2Proof Sys2Proof.Machine

/-! ### Steps and reset -/

/-- A step takes the command at the front of the queue; with none waiting, time passes (log 2). -/
def Obligations.StepTakesTheFrontCommand : Prop :=
  (∀ (c : Instr) (rest : List Instr) (s : State), s.pending = c :: rest →
    step s = exec c { s with pending := rest }) ∧
  ∀ s : State, s.pending = [] → step s = .next (tick s)

/-- Every row answers a next state in every state, and leaves the queue and the world outside alone. -/
def Obligations.EveryRowCompletes : Prop :=
  ∀ (c : Instr) (s : State), ∃ t, exec c s = .next t ∧ t.pending = s.pending ∧ t.line = s.line

/-- The machine right after reset satisfies every law. -/
def Obligations.ResetSatisfiesTheLaws : Prop :=
  State.reset.TableLaw ∧ State.reset.LifeLaw ∧ State.reset.LaneLaw ∧ NoticesLaw State.reset.notices ∧
  State.reset.MailboxLaw ∧ State.reset.StationLaw ∧ State.reset.RosterLaw ∧ State.reset.AccessFollows

/-- R146: at the rise of RESET_N the straps are sampled and every block starts from its initial state; while
RESET_N is low TXD is released, SDO at high impedance, ATTN_N high and no transaction in progress, and no other
row has an effect (log 8). `sdo`, `pending`, `line` and `freeCount` are the model's own (log 2, log 3, log 5,
log 7). -/
def Obligations.HardResetStartsEveryBlock : Prop :=
  ∀ (s : State) (addr : Addr) (rate : BitVec 2),
    (∃ t, exec (.hardReset .fall) s = .next t ∧ t.inReset = true ∧ t.ownLevel = .recessive ∧
      t.sdoDriven = false ∧ t.attention = false ∧ t.port = .none) ∧
    (∃ t, exec (.hardReset (.rise addr rate)) s = .next t ∧
      t = { inReset := false, ownAddr := addr, rate := rate, station := .unconfigured, config := none
            addrInUse := false, leaveLimit := none, receiver := .recovering, monitor := .settling 0
            run := none, longMark := false, lastSource := 0, decoder := .waiting
            table := List.replicate 16 none, roster := List.replicate 32 none
            own := { present := false, joining := false, silence := none, presence := none, listen := none }
            urgent := [], normal := [], access := .off, driveFaults := 0, mailbox := [], port := .none
            result := none, notices := []
            counters :=
              { framesOk := 0, framesOwn := 0, crcFail := 0, broken := 0, malformed := 0, unknownKind := 0
                noisyFrames := 0, longDominant := 0, yields := 0, driveFaults := 0, ignored := 0
                noticesLost := 0, postsDropped := 0, strayChars := 0, portErrors := 0, commandsRefused := 0 }
            refused := false, portError := false, sdo := s.sdo, pending := s.pending, line := s.line
            freeCount := s.freeCount } ∧
      t.silenceTimeout = ms 4080 ∧ t.attention = false ∧ t.ownLevel = .recessive) ∧
    (s.inReset = true →
      (∀ c : Instr, (∀ e, c ≠ .hardReset e) → exec c s = .next s) ∧ tick s = { s with line := s.line.drop 1 })

/-! ### The local port -/

/-- R168: the fields of the status bytes in their places. A STATUS transaction takes them at the fall of SEL_N
and returns as many of its `n` clocked bytes; each sticky flag they showed is cleared when both were clocked
(R166, R167, R169). That the monitor state is the one at the fall, where R114 gives the moment the byte is sent,
is the model's choice (log 28). With RESET_N high, ATTN_N is low exactly while a result, a notice or a post stands
(R177), and SDO is driven exactly during a transaction, which is given in stages by the model's choice (R166, log
7). -/
def Obligations.StatusIsTakenAtTheFall : Prop :=
  (∀ s : State, s.inReset = false →
    (s.attention = true ↔ s.result ≠ none ∨ s.notices ≠ [] ∨ s.mailbox ≠ []) ∧
    (s.sdoDriven = true ↔ s.port ≠ .none)) ∧
  ∀ s : State, s.notices.length ≤ 32 →
    s.status0.getLsbD 7 = s.result.isSome ∧ s.status0.getLsbD 6 = !s.notices.isEmpty ∧
    s.status0.getLsbD 5 = !s.mailbox.isEmpty ∧ s.status0.getLsbD 4 = s.refused ∧
    s.status0.getLsbD 3 = s.portError ∧
    (s.status0 &&& 7).toNat =
      (match s.station with
        | .unconfigured => 0
        | .listening => 1
        | .active => 2
        | .leaving => 3
        | .offline => 4
        | .mute => 5) ∧
    (s.status1 >>> 6).toNat =
      (match s.monitor with
        | .settling _ => 0
        | .idle _ _ => 1
        | .busy => 2
        | .stuck _ => 3) ∧
    (s.status1 &&& 0x3F).toNat = s.notices.length ∧
    (s.inReset = false → s.AccessFollows →
      (s.port = .none →
        exec (.status .select) s = .next { s with port := .selected s.status0 s.status1 } ∧
        ∀ n, exec (.status (.rise n)) s = .next (s.readOut [] n)) ∧
      ∀ a b n, s.port = .selected a b →
        exec (.status (.rise n)) s = .next
          { s with
            port := .none, sdo := ([a, b] ++ List.replicate n 0).take n
            refused := s.refused && !(a.getLsbD 4 && decide (2 ≤ n))
            portError := s.portError && !(a.getLsbD 3 && decide (2 ≤ n)) })

/-- A transaction of an unknown code sets port_error, counts PORT_ERRORS once and returns filler; one whose
code byte was not clocked does nothing. Each code spells its transaction, and in a COMMAND transaction each
command code its command (R167, R169, R170, 12.3). -/
def Obligations.UnknownCodeSetsPortError : Prop :=
  (∀ (s : State) (c : Byte) (n : Nat), s.PortIdle → s.AccessFollows → (c.toNat < 0xA0 ∨ 0xA4 < c.toNat) →
    exec (.unknownTransactionCode c (.rise n)) s = .next
      (if n = 0 then { s with sdo := [] }
       else { s.readOut [] n with portError := true, counters := s.counters.bump .portErrors })) ∧
  hostRow [] = none ∧ hostRow [0xA1] = some (.commandRefused []) ∧
  ∀ rest : List Byte,
    hostRow (0xA0 :: rest) = some (.status (.rise (rest.length + 1))) ∧
    hostRow (0xA2 :: rest) = some (.fetchResult (.rise (rest.length + 1))) ∧
    hostRow (0xA3 :: rest) = some (.fetchNotice (.rise (rest.length + 1))) ∧
    hostRow (0xA4 :: rest) = some (.fetchMail (.rise (rest.length + 1))) ∧
    (∀ c : Byte, c.toNat < 0xA0 ∨ 0xA4 < c.toNat →
      hostRow (c :: rest) = some (.unknownTransactionCode c (.rise (rest.length + 1)))) ∧
    hostRow (0xA1 :: 1 :: rest) = some (.establish rest) ∧ hostRow (0xA1 :: 2 :: rest) = some (.ask rest) ∧
    hostRow (0xA1 :: 3 :: rest) = some (.release rest) ∧ hostRow (0xA1 :: 4 :: rest) = some (.watch rest) ∧
    hostRow (0xA1 :: 5 :: rest) = some (.unwatch rest) ∧ hostRow (0xA1 :: 6 :: rest) = some (.query rest) ∧
    hostRow (0xA1 :: 7 :: rest) = some (.roster rest) ∧ hostRow (0xA1 :: 8 :: rest) = some (.post rest) ∧
    hostRow (0xA1 :: 9 :: rest) = some (.leave rest) ∧ hostRow (0xA1 :: 10 :: rest) = some (.restart rest) ∧
    hostRow (0xA1 :: 11 :: rest) = some (.counters rest) ∧
    ∀ code : Byte, code.toNat = 0 ∨ 11 < code.toNat →
      hostRow (0xA1 :: code :: rest) = some (.unknownCommand code rest)

/-- R172: FETCH RESULT returns the record or the NONE record, and removes a record clocked in full. R164: FETCH
MAIL returns the head post as taken with the code, and removes a record clocked in full. -/
def Obligations.FetchResultAndMailRemoveAWholeRecord : Prop :=
  (∀ (s : State) (n : Nat), s.PortIdle → s.AccessFollows →
    (∀ r, s.result = some r →
      exec (.fetchResult (.rise n)) s = .next
        { s.readOut r n with result := if 2 + r.length ≤ n then none else some r }) ∧
    (s.result = none → exec (.fetchResult (.rise n)) s = .next (s.readOut [0] n))) ∧
  ∀ (s : State) (n : Nat), s.inReset = false → s.AccessFollows →
    (s.port = .none → s.mailbox = [] → exec (.fetchMail (.rise n)) s = .next (s.readOut [0, 0, 0] n)) ∧
    (∀ m rest, s.port = .none → s.mailbox = m :: rest →
      exec (.fetchMail (.rise n)) s = .next
        { s.readOut
            ([addrByte m.source, boolByte m.broadcast, natByte m.payload.length] ++ m.payload) n with
          mailbox := if 5 + m.payload.length ≤ n then rest else m :: rest }) ∧
    (∀ a b, s.port = .selected a b →
      exec (.fetchMail .code) s = .next
        { s with
          port := match s.mailbox with
            | m :: _ => .running .fetchMail a b
                ([addrByte m.source, boolByte m.broadcast, natByte m.payload.length] ++ m.payload) true
            | [] => .running .fetchMail a b [0, 0, 0] false }) ∧
    (∀ a b r, s.port = .running .fetchMail a b r true → 1 ≤ n →
      ∃ t, exec (.fetchMail (.rise n)) s = .next t ∧ t.port = .none ∧
        t.mailbox = (if 2 + r.length ≤ n then s.mailbox.drop 1 else s.mailbox)) ∧
    (∀ a b r, s.port = .running .fetchMail a b r false → 1 ≤ n →
      ∃ t, exec (.fetchMail (.rise n)) s = .next t ∧ t.port = .none ∧ t.mailbox = s.mailbox)

/-- R176: FETCH NOTICE returns the head or the NONE record, removes a record clocked in full, leaves notices
that join meanwhile, and reduces a LOST_NOTICES count that rose during the fetch. Each record is four bytes, its kind
and its fields a, b and c with their codes (R174, R183). -/
def Obligations.FetchNoticeRemovesTheHead : Prop :=
  (∀ (k g tag : Byte) (p : Addr) (n : Nat), n ≤ 255 →
    let station : Byte := BitVec.ofNat 8 p.toNat
    let number : Byte := BitVec.ofNat 8 n
    (Notice.granted k g).bytes = [0x01, k, g, 0] ∧
    (Notice.refused k .peerFirst p).bytes = [0x02, k, 1, station] ∧
    (Notice.refused k .peerHeld p).bytes = [0x02, k, 2, station] ∧
    (Notice.refused k .silent p).bytes = [0x02, k, 3, station] ∧
    (Notice.refused k .muted p).bytes = [0x02, k, 4, station] ∧
    (Notice.lost k .silent p).bytes = [0x03, k, 3, station] ∧
    (Notice.lost k .muted p).bytes = [0x03, k, 4, station] ∧
    (Notice.lost k .split p).bytes = [0x03, k, 5, station] ∧
    (Notice.reasserted k g).bytes = [0x04, k, g, 0] ∧
    (Notice.joined n).bytes = [0x05, number, 0, 0] ∧
    (Notice.left .heard).bytes = [0x06, 1, 0, 0] ∧ (Notice.left .unheard).bytes = [0x06, 2, 0, 0] ∧
    (Notice.lineFault .stuckBegin).bytes = [0x07, 1, 0, 0] ∧
    (Notice.lineFault .stuckEnd).bytes = [0x07, 2, 0, 0] ∧
    (Notice.lineFault .clash).bytes = [0x07, 3, 0, 0] ∧ (Notice.lineFault .drive).bytes = [0x07, 4, 0, 0] ∧
    (Notice.postDropped p).bytes = [0x08, station, 0, 0] ∧
    (Notice.postAbandoned tag).bytes = [0x09, tag, 0, 0] ∧
    (Notice.lostNotices n).bytes = [0x0A, number, 0, 0] ∧
    (Notice.taken k p g).bytes = [0x0B, k, station, g] ∧
    (Notice.freed k p .released).bytes = [0x0C, k, station, 1] ∧
    (Notice.freed k p .orphaned).bytes = [0x0C, k, station, 2] ∧
    (Notice.freed k p .reconciled).bytes = [0x0C, k, station, 3] ∧
    (Notice.peerJoined p false).bytes = [0x0D, station, 0, 0] ∧
    (Notice.peerJoined p true).bytes = [0x0D, station, 1, 0] ∧
    (Notice.peerSilent p n).bytes = [0x0E, station, number, 0] ∧
    (Notice.peerLeft p n).bytes = [0x0F, station, number, 0] ∧
    (Notice.postSent tag).bytes = [0x10, tag, 0, 0]) ∧
  ∀ (s : State) (n : Nat), s.inReset = false → s.AccessFollows →
    (s.port = .none → s.notices = [] → exec (.fetchNotice (.rise n)) s = .next (s.readOut [0, 0, 0, 0] n)) ∧
    (∀ h rest, s.port = .none → s.notices = h :: rest →
      exec (.fetchNotice (.rise n)) s = .next
        { s.readOut h.bytes n with notices := if 6 ≤ n then rest else h :: rest }) ∧
    (∀ a b, s.port = .selected a b →
      exec (.fetchNotice .code) s = .next
        { s with
          port := match s.notices with
            | h :: _ => .running .fetchNotice a b h.bytes true
            | [] => .running .fetchNotice a b [0, 0, 0, 0] false }) ∧
    (∀ a b r h rest, s.port = .running .fetchNotice a b r true → s.notices = h :: rest → r.length = 4 →
      1 ≤ n →
      (h.isLost = false ∨ r = h.bytes) →
      ∃ t, exec (.fetchNotice (.rise n)) s = .next t ∧ t.port = .none ∧
        t.notices = (if 6 ≤ n then rest else h :: rest) ∧ t.sdo = ([a, b] ++ r ++ List.replicate n 0).take n) ∧
    (∀ a b c d, s.port = .running .fetchNotice a b (Notice.lostNotices c).bytes true → 1 ≤ n →
      s.notices = [.lostNotices d] → c < d → d ≤ 255 →
      ∃ t, exec (.fetchNotice (.rise n)) s = .next t ∧ t.port = .none ∧
        t.notices = [.lostNotices (if 6 ≤ n then d - c else d)]) ∧
    (∀ a b r, s.port = .running .fetchNotice a b r false → 1 ≤ n →
      ∃ t, exec (.fetchNotice (.rise n)) s = .next t ∧ t.port = .none ∧ t.notices = s.notices)

/-- A COMMAND record with no byte sets port_error; one given while the Result Slot is full is discarded with
refused and COMMANDS_REFUSED, whatever the command; a taken one with an unknown code is answered UNKNOWN_COMMAND
and one of a wrong length BAD_LENGTH, and nothing but the Result Slot changes beside the port's own part (steps 1
to 4 of R170). Every result record is a head of result code, length, command code and station state, then the fields
and the check byte (R182); the codes are those of 12.4, the entry state codes and the numbers of a field among
them. -/
def Obligations.CommandRecordIsJudgedInSteps : Prop :=
  (∀ (code : ResultCode × Nat) (station : StationState × Nat) (command : Byte) (fields : List Byte),
     code ∈ [(.done, 1), (.queuedWait, 2), (.alreadyHeld, 3), (.heldByPeer, 4), (.busyKey, 5), (.tableFull, 6),
       (.badKey, 7), (.notHeld, 8), (.notWatched, 9), (.queueFull, 10), (.wrongState, 11), (.badConfig, 12),
       (.noAddress, 13), (.addressInUse, 14), (.badLength, 15), (.unknownCommand, 16)] →
     station ∈ [(.unconfigured, 0), (.listening, 1), (.active, 2), (.leaving, 3), (.offline, 4), (.mute, 5)] →
     fields.length ≤ 32 →
     let record : List Byte :=
       BitVec.ofNat 8 code.2 :: BitVec.ofNat 8 (fields.length + 5) :: command :: BitVec.ofNat 8 station.2 :: fields
     resultRecord code.1 command station.1 fields = record ++ [crc8 record]) ∧
  (Claim.free.code = 0 ∧ (∀ a d, (Claim.peerAsking a d).code = 1) ∧ (∀ t, (Claim.asking t).code = 2) ∧
    Claim.mine.code = 3 ∧ ∀ h, (Claim.theirs h).code = 4) ∧
  (∀ (n : Nat) (a : Addr) (b : Bool), (natByte n).toNat = n % 256 ∧ (addrByte a).toNat = a.toNat ∧
    (boolByte b).toNat = (if b then 1 else 0) ∧ twoBytes n = [BitVec.ofNat 8 (n / 256), BitVec.ofNat 8 n]) ∧
  (∀ s : State, s.PortIdle → s.AccessFollows →
     exec (.commandRefused []) s = .next
       { s with sdo := [s.status0], portError := true, counters := s.counters.bump .portErrors } ∧
     ∀ r, s.result = some r →
       (∀ code fields, exec (.commandRefused (code :: fields)) s = .next
         { s.clocked (fields.length + 1) with
           refused := true, counters := s.counters.bump .commandsRefused }) ∧
       ∀ code fields c,
         c ∈ [Instr.unknownCommand code fields, .establish fields, .ask fields, .release fields,
              .watch fields, .unwatch fields, .query fields, .roster fields, .post fields, .leave fields,
              .restart fields, .counters fields] →
         exec c s = .next
           { s.clocked (fields.length + 1) with
             refused := true, counters := s.counters.bump .commandsRefused }) ∧
  ∀ (s : State) (fields : List Byte), s.TakesCommands → s.AccessFollows →
    (∀ code : Byte, code.toNat = 0 ∨ 11 < code.toNat →
      exec (.unknownCommand code fields) s = .next
        { s.clocked (fields.length + 1) with
          result := some ([0x10, 5, code, s.station.code] ++ [crc8 [0x10, 5, code, s.station.code]]) }) ∧
    (fields.length ≠ 5 →
      exec (.establish fields) s = .next ((s.clocked (fields.length + 1)).answered .badLength 1 [])) ∧
    (fields.length ≠ 2 →
      exec (.ask fields) s = .next ((s.clocked (fields.length + 1)).answered .badLength 2 [])) ∧
    (fields.length ≠ 1 →
      exec (.release fields) s = .next ((s.clocked (fields.length + 1)).answered .badLength 3 []) ∧
      exec (.watch fields) s = .next ((s.clocked (fields.length + 1)).answered .badLength 4 []) ∧
      exec (.unwatch fields) s = .next ((s.clocked (fields.length + 1)).answered .badLength 5 []) ∧
      exec (.query fields) s = .next ((s.clocked (fields.length + 1)).answered .badLength 6 [])) ∧
    (fields.length < 3 →
      exec (.post fields) s = .next ((s.clocked (fields.length + 1)).answered .badLength 8 [])) ∧
    (fields ≠ [] →
      exec (.roster fields) s = .next ((s.clocked (fields.length + 1)).answered .badLength 7 []) ∧
      exec (.leave fields) s = .next ((s.clocked (fields.length + 1)).answered .badLength 9 []) ∧
      exec (.restart fields) s = .next ((s.clocked (fields.length + 1)).answered .badLength 10 []) ∧
      exec (.counters fields) s = .next ((s.clocked (fields.length + 1)).answered .badLength 11 []))

/-- R175: a produced notice joins the tail, or is discarded and recorded in the LOST_NOTICES record and in
NOTICES_LOST. Each optional kind has its place in the notice mask, and every other kind has none (R173, R174,
12.3). -/
def Obligations.NoticeJoinsOrIsCountedLost : Prop :=
  (∀ (k g tag : Byte) (p : Addr) (n : Nat) (joining : Bool),
    (Notice.taken k p g).maskPlace = some 0 ∧ (∀ r, (Notice.freed k p r).maskPlace = some 1) ∧
    (Notice.peerJoined p joining).maskPlace = some 2 ∧ (Notice.peerSilent p n).maskPlace = some 3 ∧
    (Notice.peerLeft p n).maskPlace = some 4 ∧ (Notice.postSent tag).maskPlace = some 5 ∧
    (∀ r, (Notice.refused k r p).maskPlace = none ∧ (Notice.lost k r p).maskPlace = none) ∧
    (∀ r, (Notice.left r).maskPlace = none) ∧ (∀ f, (Notice.lineFault f).maskPlace = none) ∧
    ∀ m ∈ [Notice.granted k g, .reasserted k g, .joined n, .postDropped p, .postAbandoned tag, .lostNotices n],
      m.maskPlace = none) ∧
  ∀ (n : Notice) (s : State), NoticesLaw s.notices →
    (s.notices.any Notice.isLost = false → s.notices.length < 31 →
      appendNotice n s = { s with notices := s.notices ++ [n] }) ∧
    (s.notices.any Notice.isLost = false → s.notices.length = 31 →
      appendNotice n s =
        { s with notices := s.notices ++ [.lostNotices 1], counters := s.counters.bump .noticesLost }) ∧
    (∀ run c, s.notices = run ++ [.lostNotices c] → run.any Notice.isLost = false →
      appendNotice n s =
        { s with
          notices := run ++ [.lostNotices (min 255 (c + 1))], counters := s.counters.bump .noticesLost }) ∧
    ((∀ i, n.maskPlace = some i → ∃ c, s.config = some c ∧ c.mask.getLsbD i = true) →
      produce n s = appendNotice n s) ∧
    (∀ i, n.maskPlace = some i → (∀ c, s.config = some c → c.mask.getLsbD i = false) → produce n s = s)

/-! ### Commands -/

/-- R149: an ESTABLISH that passes every check. On an open line the condition is OPEN_WAIT until the next tick,
where R130 lets the attempt begin at once: the model's choice (log 9). -/
def Obligations.EstablishConfiguresAndListens : Prop :=
  ∀ (s : State) (su w retry mask bcast : Byte), s.TakesCommands →
    s.station = .unconfigured → s.ownAddr ≠ 0 → s.addrInUse = false → s.urgent = [] → s.normal = [] →
    EstablishInRange s.rate su w retry mask bcast →
    exec (.establish [su, w, retry, mask, bcast]) s = .next
      { s.clocked 6 with
        config := some
          { silenceUnit := su, window := w, retryLimit := retry, mask := mask, broadcast := bcast == 1 }
        station := .listening
        roster := s.roster.map fun place => place.filter fun e => e.age < ms (16 * su.toNat)
        own := { s.own with silence := some 0 }
        driveFaults := 0
        normal := [.presence false]
        access := match s.monitor with
          | .idle _ age => if age < s.slot then .slotWait else .openWait
          | _ => .slotWait
        result := some (resultRecord .done 1 .listening [addrByte s.ownAddr, s.rate.setWidth 8]) }

/-- R148: the checks of ESTABLISH in their order, each leaving all but the Result Slot as it was. -/
def Obligations.EstablishChecksInOrder : Prop :=
  ∀ (s : State) (su w retry mask bcast : Byte), s.TakesCommands → s.AccessFollows →
    (s.ownAddr = 0 →
      exec (.establish [su, w, retry, mask, bcast]) s =
        .next ((s.clocked 6).answered .noAddress 1 [])) ∧
    (s.ownAddr ≠ 0 → s.addrInUse = true →
      exec (.establish [su, w, retry, mask, bcast]) s =
        .next ((s.clocked 6).answered .addressInUse 1 [])) ∧
    (s.ownAddr ≠ 0 → s.addrInUse = false → ¬ EstablishInRange s.rate su w retry mask bcast →
      exec (.establish [su, w, retry, mask, bcast]) s =
        .next ((s.clocked 6).answered .badConfig 1 [])) ∧
    (s.ownAddr ≠ 0 → s.addrInUse = false → EstablishInRange s.rate su w retry mask bcast →
      s.station ≠ .unconfigured →
      exec (.establish [su, w, retry, mask, bcast]) s =
        .next ((s.clocked 6).answered .wrongState 1 []))

/-- ASK on a FREE entry or a key without one: ASKING, queued in ACTIVE and held in LISTENING (R11, R18,
R20). -/
def Obligations.AskStartsAnAsk : Prop :=
  ∀ (s : State) (k : Byte) (mode : Byte) (w : Want), s.TakesCommands →
    s.station = .listening ∨ s.station = .active → 1 ≤ k.toNat → k.toNat ≤ 254 →
    (mode = 1 ∧ w = .once) ∨ (mode = 2 ∧ w = .wait) → s.normal.length < 21 →
    (∀ n e, s.EntryAt n e → e.key = k → e.claim = .free →
      exec (.ask [k, mode]) s = .next (refreshAccess
        { ((s.clocked 3).putEntry n { e with claim := .asking none, want := w }).answered .done 2
            [k, natByte n, 2, 0] with
          normal := if s.station = .active then s.normal ++ [.ask k] else s.normal })) ∧
    (∀ pre post, s.table = pre ++ none :: post → (∀ x ∈ pre, x.isSome = true) → s.entry k = none →
      exec (.ask [k, mode]) s = .next (refreshAccess
        { (s.clocked 3).answered .done 2 [k, natByte pre.length, 2, 0] with
          table := pre ++ some { key := k, want := w, gen := 0, claim := .asking none } :: post
          normal := if s.station = .active then s.normal ++ [.ask k] else s.normal }))

/-- R19: ASK on an entry that is not FREE changes at most want. -/
def Obligations.AskOnATakenKey : Prop :=
  ∀ (s : State) (n : Nat) (e : Entry) (mode : Byte), s.TakesCommands → s.AccessFollows →
    s.station = .listening ∨ s.station = .active → s.EntryAt n e →
    1 ≤ e.key.toNat → e.key.toNat ≤ 254 → mode = 1 ∨ mode = 2 →
    (e.claim = .mine → exec (.ask [e.key, mode]) s = .next
      ((s.clocked 3).answered .alreadyHeld 2 [e.key, natByte n, 3, addrByte s.ownAddr])) ∧
    (∀ t, e.claim = .asking t → exec (.ask [e.key, mode]) s = .next
      ((s.clocked 3).answered .busyKey 2 [e.key, natByte n, 2, 0])) ∧
    (∀ h, e.claim = .theirs h → exec (.ask [e.key, mode]) s = .next
      (if mode = 1 then (s.clocked 3).answered .heldByPeer 2 [e.key, natByte n, 4, addrByte h]
       else ((s.clocked 3).putEntry n { e with want := .wait }).answered .queuedWait 2
         [e.key, natByte n, 4, addrByte h])) ∧
    ∀ a d, e.claim = .peerAsking a d → exec (.ask [e.key, mode]) s = .next
      (if mode = 1 then (s.clocked 3).answered .heldByPeer 2 [e.key, natByte n, 1, addrByte a]
       else ((s.clocked 3).putEntry n { e with want := .wait }).answered .queuedWait 2
         [e.key, natByte n, 1, addrByte a])

/-- The refusals of the key commands: WRONG_STATE, then BAD_KEY, then BAD_CONFIG, TABLE_FULL, QUEUE_FULL or
NOT_WATCHED; each leaves all but the Result Slot as it was (R10 to R14, R18, R39). -/
def Obligations.KeyCommandsAreRefused : Prop :=
  ∀ (s : State) (k mode : Byte), s.TakesCommands → s.AccessFollows →
    (s.station ≠ .listening → s.station ≠ .active →
      exec (.ask [k, mode]) s = .next ((s.clocked 3).answered .wrongState 2 [k]) ∧
      exec (.release [k]) s = .next ((s.clocked 2).answered .wrongState 3 [k])) ∧
    (s.station = .unconfigured ∨ s.station = .offline →
      exec (.watch [k]) s = .next ((s.clocked 2).answered .wrongState 4 [k]) ∧
      exec (.unwatch [k]) s = .next ((s.clocked 2).answered .wrongState 5 [k]) ∧
      exec (.query [k]) s = .next ((s.clocked 2).answered .wrongState 6 [k])) ∧
    (s.station = .listening ∨ s.station = .active → k = 0 ∨ k = 255 →
      exec (.ask [k, mode]) s = .next ((s.clocked 3).answered .badKey 2 [k]) ∧
      exec (.release [k]) s = .next ((s.clocked 2).answered .badKey 3 [k])) ∧
    (s.station ≠ .unconfigured → s.station ≠ .offline → k = 0 ∨ k = 255 →
      exec (.watch [k]) s = .next ((s.clocked 2).answered .badKey 4 [k]) ∧
      exec (.unwatch [k]) s = .next ((s.clocked 2).answered .badKey 5 [k]) ∧
      exec (.query [k]) s = .next ((s.clocked 2).answered .badKey 6 [k])) ∧
    (s.station = .listening ∨ s.station = .active → k ≠ 0 → k ≠ 255 →
      (mode ≠ 1 → mode ≠ 2 → exec (.ask [k, mode]) s = .next ((s.clocked 3).answered .badConfig 2 [k])) ∧
      (mode = 1 ∨ mode = 2 → s.entry k = none → (∀ x ∈ s.table, x.isSome = true) →
        exec (.ask [k, mode]) s = .next ((s.clocked 3).answered .tableFull 2 [k])) ∧
      (mode = 1 ∨ mode = 2 → s.station = .active → 21 ≤ s.normal.length →
        (∀ n e, s.EntryAt n e → e.key = k → e.claim = .free →
          exec (.ask [k, mode]) s = .next ((s.clocked 3).answered .queueFull 2 [k, natByte n, 0, 0])) ∧
        (s.entry k = none → (∃ x ∈ s.table, x = none) →
          exec (.ask [k, mode]) s = .next ((s.clocked 3).answered .queueFull 2 [k, 0xFF, 0xFF, 0]))) ∧
      (s.entry k = none → exec (.release [k]) s = .next ((s.clocked 2).answered .notWatched 3 [k])))

/-- R39 with R40 to R42: RELEASE of a key that has an entry. -/
def Obligations.ReleaseEndsHoldsAndAsks : Prop :=
  ∀ (s : State) (n : Nat) (e : Entry), s.TakesCommands →
    s.station = .listening ∨ s.station = .active → s.EntryAt n e →
    1 ≤ e.key.toNat → e.key.toNat ≤ 254 →
    (e.claim = .mine → exec (.release [e.key]) s = .next (refreshAccess
      { ((s.clocked 2).putEntry n { e with claim := .free, want := .none }).answered .done 3
          [e.key, natByte n, 0] with
        urgent := placeState (.free e.key false) s.urgent })) ∧
    (e.claim = .asking none → exec (.release [e.key]) s = .next (refreshAccess
      { ((s.clocked 2).putEntry n { e with claim := .free, want := .none }).answered .done 3
          [e.key, natByte n, 0] with
        normal := s.normal.filter fun o => !o.isAskOf e.key })) ∧
    (∀ t, e.claim = .asking (some t) → exec (.release [e.key]) s = .next (refreshAccess
      { ((s.clocked 2).putEntry n { e with claim := .free, want := .none }).answered .done 3
          [e.key, natByte n, 0] with
        normal := s.normal.filter fun o => !o.isAskOf e.key
        urgent := placeState (.free e.key true) s.urgent })) ∧
    (s.AccessFollows →
      (e.claim = .free → exec (.release [e.key]) s = .next
        ((s.clocked 2).answered .notHeld 3 [e.key, natByte n, 0])) ∧
      ∀ c, (∃ h, e.claim = .theirs h ∧ c = 4) ∨ (∃ a d, e.claim = .peerAsking a d ∧ c = 1) →
        exec (.release [e.key]) s = .next
          (if e.want = .wait then
            ((s.clocked 2).putEntry n { e with want := .none }).answered .done 3 [e.key, natByte n, c]
           else (s.clocked 2).answered .notHeld 3 [e.key, natByte n, c]))

/-- WATCH leaves an entry as it is, or allocates the lowest VACANT place (R11, R12); UNWATCH vacates an idle
entry and answers BUSY_KEY for any other (R13). -/
def Obligations.WatchAndUnwatchKeepTheTable : Prop :=
  ∀ s : State, s.TakesCommands → s.AccessFollows → s.station ≠ .unconfigured → s.station ≠ .offline →
    (∀ n e, s.EntryAt n e → 1 ≤ e.key.toNat → e.key.toNat ≤ 254 →
      let busy := e.claim = .mine ∨ (∃ t, e.claim = .asking t) ∨ e.want = .wait ∨
        (∃ o ∈ s.urgent, o.key = e.key) ∨ .ask e.key ∈ s.normal ∨
        s.slotOrder = some (.normal (.ask e.key)) ∨ (∃ o, s.slotOrder = some (.urgent o) ∧ o.key = e.key)
      exec (.watch [e.key]) s = .next
        ((s.clocked 2).answered .done 4 [e.key, natByte n, e.claim.code]) ∧
      (busy → exec (.unwatch [e.key]) s = .next ((s.clocked 2).answered .busyKey 5 [e.key])) ∧
      (¬ busy → exec (.unwatch [e.key]) s = .next
        { (s.clocked 2).answered .done 5 [e.key] with table := s.table.set n none })) ∧
    ∀ k : Byte, 1 ≤ k.toNat → k.toNat ≤ 254 → s.entry k = none →
      exec (.unwatch [k]) s = .next ((s.clocked 2).answered .notWatched 5 [k]) ∧
      ((∀ x ∈ s.table, x.isSome = true) →
        exec (.watch [k]) s = .next ((s.clocked 2).answered .tableFull 4 [k])) ∧
      ∀ pre post, s.table = pre ++ none :: post → (∀ x ∈ pre, x.isSome = true) →
        exec (.watch [k]) s = .next
          { (s.clocked 2).answered .done 4 [k, natByte pre.length, 0] with
            table := pre ++ some { key := k, want := .none, gen := 0, claim := .free } :: post }

/-- R117 with R116: a state order request joins the tail of the urgent lane when no state order for its key
stands there; otherwise it takes over that place: HOLD over FREE and FREE over HOLD as requested, HOLD over HOLD
alike, FREE over FREE with either one's withdrawn mark. -/
def Obligations.StateOrderTakesOverItsPlace : Prop :=
  ∀ (s : State) (o : UrgentOrder) (k : Byte), s.station.transmits = true →
    o = .hold k ∨ (∃ w, o = .free k w) →
    ((∀ x ∈ s.urgent, x ≠ .hold k ∧ ∀ w, x ≠ .free k w) →
      requestState o s = { s with urgent := s.urgent ++ [o] }) ∧
    requestState o s = { s with urgent := placeState o s.urgent } ∧
    (∀ pre post, (∀ x ∈ pre, x ≠ .hold k ∧ ∀ w, x ≠ .free k w) →
      (s.urgent = pre ++ .hold k :: post → requestState o s = { s with urgent := pre ++ o :: post }) ∧
      ∀ old, s.urgent = pre ++ .free k old :: post →
        (o = .hold k → requestState o s = { s with urgent := pre ++ .hold k :: post }) ∧
        ∀ w, o = .free k w →
          requestState o s = { s with urgent := pre ++ .free k (old || w) :: post })

/-- R14: QUERY reports the entry as the snapshot lays it out, and changes nothing but the Result Slot. IN_ATTEMPT
for an ask that stands both in the attempt slot and in the lane (log 13), and 0 for a timer that paused with
zero remaining (log 21), are the model's choices. R78: ROSTER returns the present and the joining bitmap and
changes nothing. -/
def Obligations.QueryAndRosterReport : Prop :=
  (∀ s : State, s.TakesCommands → s.AccessFollows → s.station ≠ .unconfigured → s.station ≠ .offline →
     (∀ k : Byte, 1 ≤ k.toNat → k.toNat ≤ 254 → s.entry k = none →
       exec (.query [k]) s = .next ((s.clocked 2).answered .notWatched 6 [k])) ∧
     ∀ n e, s.EntryAt n e → 1 ≤ e.key.toNat → e.key.toNat ≤ 254 →
     exec (.query [e.key]) s = .next ((s.clocked 2).answered .done 6
       ([e.key, natByte n,
         (match e.claim with
           | .free => 0
           | .peerAsking _ _ => 1
           | .asking _ => 2
           | .mine => 3
           | .theirs _ => 4),
         (match e.want with
           | .none => 0
           | .once => 1
           | .wait => 2),
         (match e.claim with
           | .mine => addrByte s.ownAddr
           | .theirs h => addrByte h
           | _ => 0),
         (match e.claim with
           | .peerAsking a _ => addrByte a
           | _ => 0),
         e.gen,
         (match e.claim with
           | .asking (some _) => 4
           | .asking none =>
             if s.slotOrder = some (.normal (.ask e.key)) then 3
             else if .ask e.key ∈ s.normal then 2 else 1
           | _ => 0)] ++
        twoBytes (match e.claim with
           | .asking (some t) => (t + 15999) / 16000
           | .peerAsking _ t => (t + 15999) / 16000
           | _ => 0) ++
        [boolByte ((match e.claim with
             | .asking (some _) => true
             | .peerAsking _ _ => true
             | _ => false) &&
           (match s.monitor with
             | .settling _ => true
             | .stuck _ => true
             | _ => false)),
         (match s.urgent.find? (fun o => o.isStateOf e.key) with
           | some (.hold _) => 1
           | some (.free _ _) => 2
           | _ => 0),
         boolByte (decide (.object e.key ∈ s.urgent)),
         (match s.slotOrder with
           | some (.normal (.ask j)) => if j = e.key then 1 else 0
           | some (.urgent (.object j)) => if j = e.key then 2 else 0
           | some (.urgent (.hold j)) => if j = e.key then 3 else 0
           | some (.urgent (.free j _)) => if j = e.key then 4 else 0
           | _ => 0)]))) ∧
  ∀ s : State, s.TakesCommands → s.AccessFollows → s.roster.length = 32 →
    ∃ fields : List Byte, fields.length = 8 ∧
      exec (.roster []) s = .next ((s.clocked 1).answered .done 7 fields) ∧
      ∀ a : Addr,
        ((fields[a.toNat / 8]?).getD 0).getLsbD (a.toNat % 8) =
          (if a = s.ownAddr then s.own.present else (s.peer a).isSome) ∧
        ((fields[4 + a.toNat / 8]?).getD 0).getLsbD (a.toNat % 8) =
          (if a = s.ownAddr then s.own.joining else ((s.peer a).map Peer.joining).getD false)

/-- R159: the checks of POST in their order, and an accepted post at the tail of the normal lane. The length
field before the station state is R159's order, where R147 has the state first (log 31). -/
def Obligations.PostIsCheckedAndQueued : Prop :=
  ∀ (s : State) (d tag len : Byte) (payload : List Byte), s.TakesCommands →
    let shaped := 1 ≤ len.toNat ∧ len.toNat ≤ 16 ∧ payload.length = len.toNat
    let accepts := s.station = .listening ∨ s.station = .active
    let reachable := d.toNat ≤ 31 ∧ d ≠ addrByte s.ownAddr
    let t := s.clocked (payload.length + 4)
    (s.AccessFollows →
      (¬ shaped → exec (.post (d :: tag :: len :: payload)) s = .next (t.answered .badLength 8 [tag])) ∧
      (shaped → ¬ accepts →
        exec (.post (d :: tag :: len :: payload)) s = .next (t.answered .wrongState 8 [tag])) ∧
      (shaped → accepts → ¬ reachable →
        exec (.post (d :: tag :: len :: payload)) s = .next (t.answered .badConfig 8 [tag])) ∧
      (shaped → accepts → reachable → 4 ≤ s.pendingPosts →
        exec (.post (d :: tag :: len :: payload)) s = .next
          (t.answered .queueFull 8 [tag, natByte s.pendingPosts]))) ∧
    (shaped → accepts → reachable → s.pendingPosts < 4 →
      exec (.post (d :: tag :: len :: payload)) s = .next (refreshAccess
        { t.answered .done 8 [tag, natByte (s.pendingPosts + 1)] with
          normal := s.normal ++ [.post { destination := d, tag := tag, payload := payload }] }))

/-- The FREE order that LEAVE places for an entry: without the mark for a MINE entry, with it for an ask that
was sent (R40, R41). -/
def leaveOrder (s : State) (k : Byte) : Option UrgentOrder :=
  match s.claimOf k with
  | some .mine => some (.free k false)
  | some (.asking (some _)) => some (.free k true)
  | _ => none

/-- An entry after LEAVE (R151). -/
def leftEntry (e : Entry) : Entry :=
  { e with
    want := .none
    claim := match e.claim with
      | .mine => .free
      | .asking _ => .free
      | c => c }

/-- R151: LEAVE, in ascending order of key, and its refusal in the other states. -/
def Obligations.LeaveReleasesEverything : Prop :=
  ∀ s : State, s.TakesCommands →
    (s.station = .listening ∨ s.station = .active → s.TableLaw → s.LifeLaw → s.LaneLaw →
      exec (.leave []) s = .next (refreshAccess
        { s.clocked 1 with
          table := s.table.map fun place => place.map leftEntry
          urgent := (s.keysAscending.filterMap (leaveOrder s)).foldl (fun l o => placeState o l) s.urgent
          normal := (s.normal.filter NormalOrder.isPost) ++ [.presence true]
          own := { s.own with listen := none }
          leaveLimit := some s.halfSilence
          station := .leaving
          result := some (resultRecord .done 9 .leaving
            [natByte (s.table.countP fun place => (place.map Entry.claim) == some .mine)]) })) ∧
    (s.station ≠ .listening → s.station ≠ .active → s.AccessFollows →
      exec (.leave []) s = .next ((s.clocked 1).answered .wrongState 9 []))

/-- The values of the Counter Bank in the order of R178. -/
def counterValues (c : Counters) : List (BitVec 16) :=
  [c.framesOk, c.framesOwn, c.crcFail, c.broken, c.malformed, c.unknownKind, c.noisyFrames, c.longDominant, c.yields,
   c.driveFaults, c.ignored, c.noticesLost, c.postsDropped, c.strayChars, c.portErrors, c.commandsRefused]

/-- R156: RESTART returns the blocks to their first state, keeps the counters, the flags and the straps, and
places its DONE. R179: COUNTERS copies the sixteen values, in the order of R178, and clears them at one moment.
Refused at a full Result Slot, RESTART has no effect and COUNTERS reads and clears nothing. An event counted raises
its own counter by one, up to 65535, and no other (R178). -/
def Obligations.RestartAndCountersClear : Prop :=
  (∀ (c : Counters) (i : Nat) (x : Counter),
    [Counter.framesOk, .framesOwn, .crcFail, .broken, .malformed, .unknownKind, .noisyFrames, .longDominant, .yields,
      .driveFaults, .ignored, .noticesLost, .postsDropped, .strayChars, .portErrors, .commandsRefused][i]? = some x →
    counterValues (c.bump x) = (counterValues c).modify i fun v => if v.toNat = 65535 then v else v + 1) ∧
  (∀ s : State, s.PortIdle →
    (∀ r, s.result = some r → s.AccessFollows → exec (.restart []) s = .next
      { s.clocked 1 with refused := true, counters := s.counters.bump .commandsRefused }) ∧
    (s.result = none → exec (.restart []) s = .next
      { s.clocked 1 with
        station := .unconfigured, config := none, addrInUse := false, leaveLimit := none
        receiver := .recovering, monitor := .settling 0, run := none, longMark := false, lastSource := 0
        decoder := .waiting, table := List.replicate 16 none, roster := List.replicate 32 none
        own := { present := false, joining := false, silence := none, presence := none, listen := none }
        urgent := [], normal := [], access := .off, driveFaults := 0, mailbox := [], notices := []
        result := some (resultRecord .done 10 .unconfigured []) })) ∧
  ∀ s : State, s.PortIdle → s.AccessFollows →
    (∀ r, s.result = some r → exec (.counters []) s = .next
      { s.clocked 1 with refused := true, counters := s.counters.bump .commandsRefused }) ∧
    (s.result = none → exec (.counters []) s = .next
      { (s.clocked 1).answered .done 11
          ((counterValues s.counters).flatMap fun v => [natByte (v.toNat / 256), natByte v.toNat]) with
        counters :=
          { framesOk := 0, framesOwn := 0, crcFail := 0, broken := 0, malformed := 0, unknownKind := 0
            noisyFrames := 0, longDominant := 0, yields := 0, driveFaults := 0, ignored := 0
            noticesLost := 0, postsDropped := 0, strayChars := 0, portErrors := 0, commandsRefused := 0 } })

/-! ### Frames and the line -/

/-- The characters of a frame with the noise mark of each, taken one after the other without framing errors;
character 0 alone has mark bit 1 (R79). -/
def takeFrame (chars : List (Byte × Bool)) (s : State) : State :=
  match chars with
  | [] => s
  | (b, noisy) :: rest =>
    rest.foldl (fun t c => takeCharacter c.1 false c.2 false t) (takeCharacter b true noisy false s)

/-- A byte as a polynomial over GF(2), bit i the coefficient of x^i. -/
noncomputable def bytePolynomial (b : Byte) : Polynomial (ZMod 2) :=
  ∑ i ∈ Finset.range 8, if b.getLsbD i then Polynomial.X ^ i else 0

/-- R82: the register of the check byte starts at 0xFF, and each byte, most significant bit first, is fed into it by
division by x^8 + x^2 + x + 1: the register after the byte is the remainder of (register + byte) * x^8. -/
def Obligations.CheckByteIsTheRemainder : Prop :=
  crc8 [] = 0xFF ∧
  ∀ (bytes : List Byte) (b : Byte),
    (Polynomial.X ^ 8 + Polynomial.X ^ 2 + Polynomial.X + 1 : Polynomial (ZMod 2)) ∣
      (bytePolynomial (crc8 bytes) + bytePolynomial b) * Polynomial.X ^ 8 - bytePolynomial (crc8 (bytes ++ [b]))

/-- Every frame whose fields are in range is read back from its own characters: kind, source, expected length,
check byte and every field (R79 to R82, R85, R88, R181); and each character is driven as a dominant start bit,
the data bits from the least significant, the mark bit and a recessive stop bit (R98). The station puts the level of
that bit on the line at each sample while it drives, eight samples a bit (log 2), with the characters back to back,
and leaves the line recessive behind the last one and outside an attempt (R136). -/
def Obligations.FrameIsReadBackFromItsBytes : Prop :=
  (∀ s : State, (∀ a, s.access ≠ .driving a) → s.ownLevel = .recessive) ∧
  ∀ f : Frame, f.inRange = true →
    let c0 : Byte := BitVec.ofNat 8 (f.body.kind.code + 8 * f.source.toNat)
    let body : List Byte := match f.body with
      | .presence joining leaving pairs =>
        BitVec.ofNat 8 (pairs.length + (if joining then 32 else 0) + if leaving then 64 else 0) ::
          pairs.flatMap fun x => [x.1, x.2]
      | .ask k => [k]
      | .object k precedent reason gen => [k, precedent, reason, gen]
      | .hold k gen => [k, gen]
      | .free k gen withdrawn => [k, gen, if withdrawn then 1 else 0]
      | .post d payload => d :: BitVec.ofNat 8 payload.length :: payload
    f.encode = c0 :: body ++ [crc8 (c0 :: body)] ∧
      kindOf c0 = some f.body.kind ∧ sourceOf c0 = f.source ∧ readBody f.body.kind body = some f.body ∧
      expectedLength f.body.kind f.encode = some (some f.encode.length) ∧ f.encode.length ≤ 35 ∧
      ∀ (i : Nat) (b : Byte), f.encode[i]? = some b →
        f.levelAt (11 * i) = .dominant ∧
        (∀ j, j < 8 → f.levelAt (11 * i + 1 + j) = if b.getLsbD j then .recessive else .dominant) ∧
        f.levelAt (11 * i + 9) = (if i = 0 then .recessive else .dominant) ∧
        f.levelAt (11 * i + 10) = .recessive ∧
        ∀ (s : State) (a : Attempt) (bit sample : Nat), s.access = .driving a → a.frame = f → sample < 8 →
          (88 * f.encode.length ≤ a.driven → s.ownLevel = .recessive) ∧
          (bit < 11 → a.driven = 88 * i + 8 * bit + sample → s.ownLevel =
            if bit = 0 then .dominant
            else if bit ≤ 8 then (if b.getLsbD (bit - 1) then .recessive else .dominant)
            else if bit = 9 then (if i = 0 then .recessive else .dominant)
            else .recessive)

/-- The rows of arriving foreign frames. -/
def isArrival : Instr → Bool
  | .presenceArrival _ _ _ _ _ => true
  | .askArrival _ _ _ => true
  | .objectArrival _ _ _ _ _ _ => true
  | .holdArrival _ _ _ _ => true
  | .freeArrival _ _ _ _ _ => true
  | .postArrival _ _ _ _ => true
  | .addressClash _ _ => true
  | _ => false

/-- A frame in range that a waiting decoder hears character by character is one arrival of that frame, noisy
when any of its characters was; one with a wrong check byte is discarded as CRC_FAIL, and one with a right
check byte and a field out of range as MALFORMED (R83 to R86, R88, R90 to R92). An arrival row given in the middle
of another frame is taken as by a waiting decoder, and counts no BROKEN: the model's choice (log 22). -/
def Obligations.CharactersOfAFrameAreItsArrival : Prop :=
  (∀ (s : State) (c : Instr), s.Hears → s.ownAddr ≠ 0 → isArrival c = true →
    exec c s = exec c { s with decoder := .waiting }) ∧
  ∀ (f : Frame) (noise : List Bool) (s : State), noise.length = f.encode.length →
    s.decoder = .waiting → s.isDriving = false → s.monitor.isSettling = false →
    (f.inRange = true → takeFrame (f.encode.zip noise) s = foreignFrame f (noise.any id) s) ∧
    (f.lengthInRange = true →
      (∀ check : Byte, check ≠ crc8 f.chars →
        takeFrame ((f.chars ++ [check]).zip noise) s =
          { s with lastSource := 0, counters := s.counters.bump .crcFail }) ∧
      (f.inRange = false →
        takeFrame (f.encode.zip noise) s =
          { s with lastSource := 0, counters := s.counters.bump .malformed }))

/-- The total length of a frame of this kind, once the characters received fix it (R79, R83). -/
def frameLength (k : Kind) (chars : List Byte) : Option Nat :=
  match k with
  | .ask => some 3
  | .object => some 6
  | .hold => some 4
  | .free => some 5
  | .presence => chars[1]?.map fun c => 3 + 2 * (c &&& 31).toNat
  | .post => chars[2]?.map fun l => 4 + l.toNat

/-- The length field, where it has been received, is in range (R85). -/
abbrev LengthFits (k : Kind) (chars : List Byte) : Prop :=
  (k = .presence → ∀ c, chars[1]? = some c → (c &&& 31).toNat ≤ 16) ∧
  (k = .post → ∀ l, chars[2]? = some l → 1 ≤ l.toNat ∧ l.toNat ≤ 16)

/-- The dominant run in samples at point 6 of a stop bit that read dominant: ten bits and the start of the stop bit
where every bit was dominant, else the last bits that were (R98, R108; logs 29, 37). -/
def framingErrorRun (data : Byte) (mark : Bool) : Nat :=
  let last := trailing .dominant data mark
  8 * (if last = 9 then 10 else last) + 5

/-- A character by the condition of the decoder (R84 to R88, R102, R103, R107). With mark bit 1 it starts a
frame and breaks one under assembly as BROKEN; with mark bit 0 it is a stray one in WAITING, is passed over in
SKIPPING, and as a length field out of range it makes the frame MALFORMED; with a framing error it counts
BROKEN but in SKIPPING. A stop bit cut by an edge makes that edge a candidate at idle age 0. A frame under assembly
grows by it, and is checked when its length is reached. While the station drives, only its own character in its
place is taken, and the last one is the own arrival, at the early end of a cut stop bit too (R92, R137, R140). A
framing error leaves a dominant run that reaches from the last dominant bits to point 6 of the stop bit, and begins
with the start bit where every bit is dominant (R108). The model's choices are the discard of a framing error in
WAITING (log 14), that no other character is taken while driving (log 16), the line dominant at point 6 of the stop
bit (log 29) and through every sample of those bits, noisy or not (log 37), and that the row is taken whatever the
receiver does (log 36). -/
def Obligations.CharacterIsTakenByTheDecoder : Prop :=
  ∀ (s : State) (data : Byte) (mark noisy cut : Bool), s.inReset = false → s.monitor.timersRun = true →
    let p : State :=
      { s with
        receiver := if cut then .starting 1 [] else .searching
        monitor := .idle 0 0, run := if cut then some 0 else none, longMark := false
        access := s.access.lineBusy }
    let old : State := match s.decoder with
      | .assembling _ => { p with lastSource := 0, counters := s.counters.bump .broken }
      | _ => p
    let malformed : State :=
      { p with decoder := .skipping, lastSource := 0, counters := s.counters.bump .malformed }
    let heard := .character data false noisy false cut
    (s.isDriving = false →
    (s.decoder = .waiting → exec (.character data false noisy false cut) s =
      .next (refreshAccess { p with counters := s.counters.bump .strayChars })) ∧
    (s.decoder = .skipping → exec (.character data false noisy false cut) s = .next (refreshAccess p)) ∧
    (∀ kind, kindOf data = some kind → exec (.character data true noisy false cut) s =
      .next (refreshAccess
        { old with
          decoder := .assembling
            { kind := kind, source := sourceOf data, chars := [data], noisy := noisy
              expected := match kind with
                | .ask => some 3
                | .object => some 6
                | .hold => some 4
                | .free => some 5
                | _ => none } })) ∧
    (kindOf data = none → exec (.character data true noisy false cut) s =
      .next (refreshAccess
        { old with
          decoder := .skipping, lastSource := 0, counters := old.counters.bump .unknownKind })) ∧
    (∀ a c0, s.decoder = .assembling a → a.kind = .presence → a.chars = [c0] → 16 < (data &&& 31).toNat →
      exec (.character data false noisy false cut) s = .next (refreshAccess malformed)) ∧
    (∀ a c0 d, s.decoder = .assembling a → a.kind = .post → a.chars = [c0, d] →
      data.toNat = 0 ∨ 16 < data.toNat →
      exec (.character data false noisy false cut) s = .next (refreshAccess malformed)) ∧
    (∀ a, s.decoder = .assembling a → LengthFits a.kind (a.chars ++ [data]) →
      let chars := a.chars ++ [data]
      let whole : State := { p with decoder := .waiting }
      (frameLength a.kind chars ≠ some chars.length → exec heard s = .next (refreshAccess
        { p with
          decoder := .assembling
            { a with chars := chars, expected := frameLength a.kind chars, noisy := a.noisy || noisy } })) ∧
      (frameLength a.kind chars = some chars.length →
        (data ≠ crc8 a.chars → exec heard s = .next (refreshAccess
          { whole with lastSource := 0, counters := s.counters.bump .crcFail })) ∧
        ∀ b, data = crc8 a.chars → readBody a.kind (a.chars.drop 1) = some b →
          let f : Frame := { source := a.source, body := b }
          exec heard s = .next (refreshAccess
            (if f.inRange = true then foreignFrame f (a.noisy || noisy) whole
             else { whole with lastSource := 0, counters := s.counters.bump .malformed })))) ∧
    exec (.character data mark noisy true false) s =
      .next (refreshAccess
        { s with
          receiver := .recovering, monitor := .busy, run := some (framingErrorRun data mark), longMark := false
          access := s.access.lineBusy, decoder := .skipping
          lastSource := if s.decoder = .skipping then s.lastSource else 0
          counters := if s.decoder = .skipping then s.counters else s.counters.bump .broken })) ∧
    ∀ a, s.access = .driving a →
      let i := match s.decoder with
        | .assembling b => b.chars.length
        | _ => 0
      let read : Access :=
        .driving { a with driven := max a.driven (88 * (i + 1)), checked := max a.checked (11 * (i + 1)) }
      (∀ framingError, framingError = true ∨ a.frame.encode[i]? ≠ some data ∨ mark ≠ decide (i = 0) →
        exec (.character data mark noisy framingError cut) s = .next s) ∧
      (a.frame.inRange = true → a.frame.encode[i]? = some data →
        (s.decoder = .waiting ∨ s.decoder = .skipping →
          exec (.character data true noisy false cut) s = .next
            { p with
              access := read
              decoder := .assembling
                { kind := a.frame.body.kind, source := a.frame.source, chars := [data], noisy := noisy
                  expected := frameLength a.frame.body.kind [data] } }) ∧
        ∀ b, s.decoder = .assembling b → b.kind = a.frame.body.kind → b.source = a.frame.source →
          b.chars = a.frame.encode.take i → 1 ≤ i →
          (i + 1 < a.frame.encode.length → exec heard s = .next
            { p with
              access := read
              decoder := .assembling
                { b with
                  chars := a.frame.encode.take (i + 1), noisy := b.noisy || noisy
                  expected := frameLength b.kind (a.frame.encode.take (i + 1)) } }) ∧
          (i + 1 = a.frame.encode.length →
            ∃ t, exec (.attemptCompletes (b.noisy || noisy)) s = .next t ∧
              exec heard s = .next (if cut then { t with receiver := .starting 1 [], run := some 0 } else t)))

/-- A CHARACTER while the Line Monitor is SETTLING is dropped uncounted by the Frame Decoder (R83), and its last
samples count for SETTLING: a clean one leaves its last recessive bits and the stop bit as the recessive count, and
none where an edge cut the stop bit, which is a candidate then; a framing error leaves the count at 0 and its
dominant run (R102 to R104, R108). `trailing` counts the last bits, from the mark bit back to d0, that have one
level. In STUCK no character is received (R100). The model's choices are that the samples of a noisy character all
read their bit's value (log 37), the line dominant at point 6 of a stop bit that read dominant (log 29), and that the
row is taken in SETTLING whatever the receiver does and is not taken in STUCK (log 36). -/
def Obligations.CharacterInSettlingOrStuckIsDropped : Prop :=
  (∀ (level : Level) (data : Byte) (mark : Bool),
    let bit (i : Nat) : Level := if (if i = 8 then mark else data.getLsbD i) then .recessive else .dominant
    let n := trailing level data mark
    n ≤ 9 ∧ (∀ i, i < n → bit (8 - i) = level) ∧ (n < 9 → bit (8 - n) ≠ level)) ∧
  ∀ (s : State) (data : Byte) (mark noisy cut : Bool), s.inReset = false →
    (∀ n, s.monitor = .settling n → s.isDriving = false →
      exec (.character data mark noisy false cut) s = .next (refreshAccess
        { s with
          receiver := if cut then .starting 1 [] else .searching
          monitor := .settling (if cut then 0 else 8 * (trailing .recessive data mark + 1))
          run := if cut then some 0 else none, longMark := false, access := s.access.lineBusy }) ∧
      exec (.character data mark noisy true cut) s = .next (refreshAccess
        { s with
          receiver := .recovering, monitor := .settling 0, run := some (framingErrorRun data mark)
          longMark := false, access := s.access.lineBusy })) ∧
    ∀ n framingError, s.monitor = .stuck n → s.AccessFollows →
      exec (.character data mark noisy framingError cut) s = .next s

/-- The idle age reaching 4 breaks a frame under assembly and ends a skip (R86, R87, R91, R105); that the row is
taken while the station drives, with the attempt going on, is the model's choice (log 35). The ends of SETTLING
and of STUCK, the long dominant and the entry to STUCK (R104, R111 to R113); a window that paused at zero expires
at once at the end of STUCK (R114, R31). LONG_DOMINANT and STUCK_BEGIN given in IDLE are taken too, STUCK_BEGIN
counts no LONG_DOMINANT for a run not declared before, and LONG_DOMINANT leaves the receiver as it is, by the
model's choice (logs 30, 32, 33). -/
def Obligations.GapRunsAndCountsOfTheMonitor : Prop :=
  (∀ (s : State) (elapsed age : Nat), s.inReset = false → s.AccessFollows →
     s.monitor = .idle elapsed age → s.receiver.isStarting = false → age < 4 →
     let t := { s with monitor := .idle (max elapsed 32) 4 }
     (∀ a, s.decoder = .assembling a → exec .gapLimit s = .next
       { t with decoder := .waiting, lastSource := 0, counters := s.counters.bump .broken }) ∧
     (s.decoder = .skipping → exec .gapLimit s = .next { t with decoder := .waiting }) ∧
     (s.decoder = .waiting → exec .gapLimit s = .next t)) ∧
  ∀ s : State, s.inReset = false → s.isDriving = false →
    (∀ n, s.AccessFollows → s.monitor = .settling n → exec .settlingEnd s = .next
      { s with monitor := .idle 0 0, receiver := .searching, run := none, longMark := false }) ∧
    (∀ n, s.monitor = .stuck n →
      let free := produce (.lineFault .stuckEnd)
        { s with
          monitor := .idle 0 0, receiver := .searching, run := none, longMark := false
          lastSource := 0 }
      (s.NoZeroTimer none → exec .stuckEnd s = .next (refreshAccess free)) ∧
      ∀ m e, s.EntryAt m e → e.claim = .asking (some 0) → s.NoZeroTimer (some m) →
        s.station.transmits = true → exec .stuckEnd s = .next (refreshAccess
          { produce (.granted e.key (e.gen + 1))
              (free.putEntry m { e with claim := .mine, gen := e.gen + 1, want := .none }) with
            urgent := placeState (.hold e.key) s.urgent })) ∧
    (s.monitor.isStuck = false → exec .stuckBegin s = .next (refreshAccess
      (produce (.lineFault .stuckBegin)
        { s with
          monitor := .stuck 0, run := some (max (s.run.getD 0) 880), longMark := true
          access := s.access.lineBusy
          receiver := match s.receiver with
            | .searching => .searching
            | _ => .recovering }))) ∧
    (s.AccessFollows → s.longMark = false → exec .longDominant s = .next
      { s with
        run := some (max (s.run.getD 0) 88), longMark := true
        monitor := match s.monitor with
          | .settling _ => .settling 0
          | .stuck _ => .stuck 0
          | m => m
        lastSource := match s.decoder with
          | .assembling _ => 0
          | _ => s.lastSource
        decoder := match s.decoder with
          | .assembling _ => .skipping
          | d => d
        counters := match s.decoder with
          | .assembling _ => (s.counters.bump .longDominant).bump .broken
          | _ => s.counters.bump .longDominant })

/-- The state at an idle age, which the gap limit was handed on with if it lies between (R87, R105). -/
def agedTo (elapsed age age' : Nat) (s : State) : State :=
  let aged : State := { s with monitor := .idle elapsed age' }
  if age < 4 ∧ 4 ≤ age' then
    match s.decoder with
    | .assembling _ => { aged with decoder := .waiting, lastSource := 0, counters := s.counters.bump .broken }
    | _ => { aged with decoder := .waiting }
  else aged

/-- The samples to point 6 of the candidate, which begins now if there is none (R100; log 24). -/
def toVerdict (s : State) : Nat :=
  match s.receiver with
  | .starting point _ => 6 - point
  | _ => 6

/-- The line after a candidate was judged false: its samples count as recessive or as elapsed idle time, and the
idle age has caught up (R104, R106, R110; log 24). -/
def judgedFalse (s : State) : State :=
  let ended : State := { s with receiver := .searching, run := none, longMark := false }
  match s.monitor with
  | .idle elapsed age => agedTo (elapsed + toVerdict s) age (max age ((elapsed + toVerdict s) / 8)) ended
  | .settling n =>
    { ended with
      monitor := match s.receiver with
        | .starting _ _ => .settling (n + toVerdict s)
        | _ => .settling 5 }
  | _ => ended

/-- The line at the verification of a start bit that left this reception (R100, R106; log 24). -/
def verifiedLine (noisy : Bool) (r : Reception) (s : State) : State :=
  { s with
    receiver := .receiving r
    run := if noisy then none else some 5
    longMark := false
    monitor := match s.monitor with
      | .idle _ _ => .busy
      | .settling _ => .settling (if noisy then 1 else 0)
      | m => m
    access := match s.monitor, s.access with
      | .idle _ _, .openWait => .slotWait
      | _, a => a }

/-- A station that waits begins while the idle age goes from `age` to `age'`: at its slot, or on the open line
(R105, R130); in SLOT_WAIT after its slot was reached, on the open line too (the model's choice, log 10). -/
abbrev BeginsBetween (age age' : Nat) (s : State) : Prop :=
  age < age' ∧
  ((s.access = .slotWait ∧ age < s.slot ∧ s.slot ≤ age') ∨
   ((s.access = .openWait ∨ s.access = .slotWait ∧ s.slot ≤ age) ∧ 43 ≤ age'))

/-- The attempt that begins with this order and body (R133, R136). -/
def begun (s : State) (o : Order) (b : Body) : Access :=
  .driving { order := o, frame := { source := s.ownAddr, body := b }, driven := 0, checked := 0 }

/-- A start bit verified, a false start, and the first recessive sample, while the station does not drive (R99,
R100, R104, R106 to R108, R110, R113, R131). A false start hands on every idle age it held back: the gap limit
breaks a frame, and a station whose slot is among them begins with its head order (R130, R132, R133). The model's
choices are which samples of a candidate that is judged false were recessive (log 24), the idle age at which a start
bit verified from SEARCHING began (log 34), and that a station in SLOT_WAIT whose slot was reached begins on the open
line (log 10, in `BeginsBetween`). Both verdicts while the station drives stand with the readback of the own bits. -/
def Obligations.StartBitsAndRecovery : Prop :=
  ∀ (s : State) (noisy : Bool), s.inReset = false → s.AccessFollows → s.isDriving = false →
    (s.receiver.awaitsStart = true → s.monitor.isStuck = false →
      (∃ r : Reception, r.bit = 0 ∧ r.point = 6 ∧ r.noisy = noisy ∧ r.bits = [] ∧
        exec (.startBitVerified noisy) s = .next (verifiedLine noisy r s)) ∧
      ((∀ elapsed age, s.monitor = .idle elapsed age →
          ¬ BeginsBetween age ((elapsed + toVerdict s) / 8) (judgedFalse s)) →
        exec .falseStart s = .next (judgedFalse s)) ∧
      ∀ elapsed age, s.monitor = .idle elapsed age →
        BeginsBetween age ((elapsed + toVerdict s) / 8) (judgedFalse s) →
        (∀ o rest b, s.urgent = o :: rest → s.Composes (.urgent o) b → exec .falseStart s = .next
          { judgedFalse s with urgent := rest, access := begun s (.urgent o) b }) ∧
        ∀ o rest b, s.urgent = [] → s.normal = o :: rest → s.Composes (.normal o) b →
          exec .falseStart s = .next { judgedFalse s with normal := rest, access := begun s (.normal o) b }) ∧
    (s.receiver = .recovering → exec .firstRecessiveSample s = .next
      { s with
        receiver := .searching, run := none, longMark := false
        monitor := match s.monitor with
          | .busy => .idle 0 0
          | .settling n => .settling (n + 1)
          | .stuck n => .stuck (n + 1)
          | m => m })

/-- The Line Receiver takes a sample (R99 to R103). RECOVERING ends at a recessive one; an edge in SEARCHING
starts a candidate, outside STUCK; in STARTING the majority of points 4 to 6 judges the start bit; in RECEIVING each
bit takes that majority, an edge re-aligns the position by the table of R102, and the stop bit delivers the
character, or makes a framing error. Each value goes to the Access Engine (`handBit`). That an edge at point 4
begins a new candidate is the model's choice (log 26), and so is RECOVERING after the samples dominant, dominant,
recessive of a stop bit (log 29). -/
def Obligations.ReceiverTakesASample : Prop :=
  ∀ s : State,
    let inStep := ∀ elapsed age, s.monitor = .idle elapsed age → elapsed / 8 ≤ age
    (s.receiver = .recovering → ∀ edge,
      receive .dominant edge s = s ∧
      receive .recessive edge s =
        { s with
          receiver := .searching
          monitor := match s.monitor with
            | .busy => .idle 0 0
            | m => m }) ∧
    (s.receiver = .searching →
      (∀ level, receive level false s = s) ∧
      receive .dominant true s = if s.monitor.isStuck then s else { s with receiver := .starting 1 [] }) ∧
    (∀ p mids, s.receiver = .starting p mids →
      (1 ≤ p → p ≤ 3 → receive .dominant true s = { s with receiver := .starting 1 [] }) ∧
      (p = 4 ∨ p = 5 → s.isDriving = false → inStep →
        receive .dominant true s = { s with receiver := .starting 1 [] }) ∧
      (p = 1 ∨ p = 2 → ∀ level, receive level false s = { s with receiver := .starting (p + 1) mids }) ∧
      (p = 3 ∨ p = 4 → ∀ level,
        receive level false s = { s with receiver := .starting (p + 1) (mids ++ [level]) }) ∧
      ∀ x y level, p = 5 → mids = [x, y] →
        (2 ≤ [x, y, level].count .dominant → receive level false s = handBit .dominant
          { s with
            receiver := .receiving
              { bit := 0, point := 6, mids := [], value := some .dominant, bits := []
                noisy := decide ([x, y, level].count .dominant = 2) }
            monitor := match s.monitor with
              | .idle _ _ => .busy
              | m => m
            access := match s.monitor, s.access with
              | .idle _ _, .openWait => .slotWait
              | _, a => a }) ∧
        ([x, y, level].count .dominant ≤ 1 → s.isDriving = false → inStep →
          receive level false s = { s with receiver := .searching })) ∧
    ∀ r : Reception, s.receiver = .receiving r →
      let next (v : Level) : Receiver := .receiving
        { bit := r.bit + 1, point := 1, mids := [], value := none
          bits := if r.bit = 0 then [] else r.bits ++ [v], noisy := r.noisy }
      let ended : Monitor := match s.monitor with
        | .idle _ _ => .idle 0 0
        | .busy => .idle 0 0
        | m => m
      (1 ≤ r.point → r.point ≤ 3 →
        receive .dominant true s = { s with receiver := .receiving { r with point := 1, mids := [] } }) ∧
      (r.point = 1 ∨ r.point = 2 ∨ r.point = 6 ∨ r.point = 7 → ∀ level,
        receive level false s = { s with receiver := .receiving { r with point := r.point + 1 } }) ∧
      (r.point = 3 ∨ r.point = 4 → ∀ level, receive level false s =
        { s with receiver := .receiving { r with point := r.point + 1, mids := r.mids ++ [level] } }) ∧
      (r.bit < 10 →
        (r.point = 4 ∨ r.point = 5 →
          receive .dominant true s = { handBit .recessive s with receiver := next .recessive }) ∧
        ∀ v, r.value = some v →
          (r.point = 6 ∨ r.point = 7 → receive .dominant true s = { s with receiver := next v }) ∧
          (r.point = 8 → ∀ level edge, receive level edge s = { s with receiver := next v })) ∧
      (∀ (x y level v : Level) (noisy : Bool), r.point = 5 → r.mids = [x, y] →
        v = (if 2 ≤ [x, y, level].count .dominant then .dominant else .recessive) →
        noisy = (r.noisy || decide (¬ (x = y ∧ y = level))) →
        (r.bit < 10 ∨ v = .recessive → receive level false s =
          { handBit v s with
            receiver := .receiving { r with point := 6, mids := [], value := some v, noisy := noisy } }) ∧
        ∀ (data : Byte) (mark : Bool), r.bit = 10 → v = .dominant →
          (∀ j, j < 8 → data.getLsbD j = (r.bits[j]? == some .recessive)) →
          mark = (r.bits[8]? == some .recessive) →
          receive level false s = takeCharacter data mark noisy true
            { handBit .dominant s with receiver := .recovering }) ∧
      ∀ (data : Byte) (mark : Bool), r.bit = 10 → s.monitor.isStuck = false → s.isDriving = false →
        (∀ j, j < 8 → data.getLsbD j = (r.bits[j]? == some .recessive)) →
        mark = (r.bits[8]? == some .recessive) →
        (4 ≤ r.point → r.point ≤ 7 → receive .dominant true s = takeCharacter data mark r.noisy false
          { s with receiver := .starting 1 [], monitor := ended }) ∧
        (r.point = 8 → bitEnds s = takeCharacter data mark r.noisy false
          { s with receiver := .searching, monitor := ended })

/-- A tick with nothing due but its sample is one sample point: the bit time that ends there is counted, the line
is read as the wired AND of all stations, the dominant run is measured, the Line Receiver takes the sample, and an
own start bit is judged overdue (R97, R99, R104, R105, R108, R111 to R113, R137). The model's choices are that a tick
is one sample (log 2), what the world outside does to the line (log 3), when within a tick things are counted
(log 18), that the receiver takes the sample before the own start bit is judged overdue (log 27), that a run of 110
bit times enters STUCK from every other monitor state, IDLE among them (log 30), and only while the station does not
drive (log 36), and that a station in SLOT_WAIT whose slot was reached begins on the open line (log 10, in
`BeginsBetween`). A tick with a timer due, and one that begins an attempt on an open line, stand in
`TickTakesTheEventsOfItsMoment`. -/
def Obligations.TickTakesASample : Prop :=
  ∀ s : State, s.inReset = false → s.AccessFollows →
    ((∀ elapsed age, s.monitor = .idle elapsed age →
        age < 43 ∨ s.access ≠ .slotWait ∧ s.access ≠ .openWait) →
      (advanceClocks s).dueEvents s.presenceCrosses = [.sample] →
      tick s = refreshAccess (samplePoint (advanceClocks s))) ∧
    (let t := refreshAccess (bitEnds s)
      ∀ (level : Level) (edge : Bool),
      (level = .dominant ↔
        t.line.head? = some .held ∨ t.line.head? ≠ some .cut ∧ t.ownLevel = .dominant) →
      (edge = true ↔ level = .dominant ∧ t.run = none) →
      samplePoint s = startOverdue (receive level edge (measureRun level
        { t with
          line := t.line.drop 1
          access := match t.access with
            | .driving a => .driving { a with driven := a.driven + 1 }
            | x => x }))) ∧
    ((∀ r, s.receiver = .receiving r → r.bit = 10 → r.point < 8) →
      (∀ n, s.monitor = .settling n → bitEnds s = if 96 ≤ n then { s with monitor := .idle 0 0 } else s) ∧
      (∀ n, s.monitor = .stuck n → s.NoZeroTimer none → bitEnds s =
        if 96 ≤ n then produce (.lineFault .stuckEnd) { s with monitor := .idle 0 0, lastSource := 0 } else s) ∧
      (s.monitor = .busy → bitEnds s = s) ∧
      ∀ elapsed age, s.monitor = .idle elapsed age →
        (s.receiver.isStarting = true → bitEnds s = { s with monitor := .idle (elapsed + 1) age }) ∧
        (s.receiver.isStarting = false →
          let aged := agedTo (elapsed + 1) age (max age ((elapsed + 1) / 8)) s
          (¬ BeginsBetween age ((elapsed + 1) / 8) aged → bitEnds s = aged) ∧
          (BeginsBetween age ((elapsed + 1) / 8) aged →
            (∀ o rest b, s.urgent = o :: rest → s.Composes (.urgent o) b →
              bitEnds s = { aged with urgent := rest, access := begun s (.urgent o) b }) ∧
            ∀ o rest b, s.urgent = [] → s.normal = o :: rest → s.Composes (.normal o) b →
              bitEnds s = { aged with normal := rest, access := begun s (.normal o) b }))) ∧
    measureRun .recessive s =
      { s with
        run := none, longMark := false
        monitor := match s.monitor with
          | .settling n => .settling (n + 1)
          | .stuck n => .stuck (n + 1)
          | m => m } ∧
    let n := match s.run with
      | none => 0
      | some m => m + 1
    let counted : State :=
      { s with
        run := some n
        monitor := match s.monitor with
          | .settling _ => .settling 0
          | .stuck _ => .stuck 0
          | m => m }
    (s.longMark = false ∧ n < 88 ∨
        s.longMark = true ∧ (n < 880 ∨ s.monitor.isStuck = true ∨ s.isDriving = true) →
      measureRun .dominant s = counted) ∧
    (s.longMark = false → 88 ≤ n → measureRun .dominant s =
      { counted with
        longMark := true
        lastSource := match s.decoder with
          | .assembling _ => 0
          | _ => s.lastSource
        decoder := match s.decoder with
          | .assembling _ => .skipping
          | d => d
        counters := match s.decoder with
          | .assembling _ => (s.counters.bump .longDominant).bump .broken
          | _ => s.counters.bump .longDominant }) ∧
    (s.longMark = true → 880 ≤ n → s.monitor.isStuck = false → s.isDriving = false →
      measureRun .dominant s = produce (.lineFault .stuckBegin)
        { counted with monitor := .stuck 0, access := s.access.lineBusy })

/-- The events of time (R8, R9, R16, R64, R66, R70, R72, R75, R152, R157): a tick advances the clocks and takes every
event that has come: windows and deferrals at zero while the line lets them count, peers whose age has reached the
timeout, the presence count that reaches T_s/4 in this tick, the silence count at T_s/2, the listen timer and the
leave limit at zero, and the sample. Each is what its row is, and one that no longer stands when its turn comes does
nothing. Peers go in ascending address; any other two come in either order, by a free value whose counter is the
model's (log 5). A station that waits on an open line begins at once (R130), at the start of the tick (the model's
choice, log 9), and one in SLOT_WAIT there too (log 10). That a tick is one sample is the model's choice (log 2). -/
def Obligations.TickTakesTheEventsOfItsMoment : Prop :=
  (∀ s : State, s.inReset = false → s.AccessFollows →
    (∀ elapsed age, s.monitor = .idle elapsed age →
      age < 43 ∨ s.access ≠ .slotWait ∧ s.access ≠ .openWait) →
    let t := advanceClocks s
    let due := t.dueEvents s.presenceCrosses
    (.sample ∈ due ∧
      (∀ k, .claim k ∈ due ↔ t.monitor.timersRun = true ∧
        (t.claimOf k = some (.asking (some 0)) ∨ ∃ a, t.claimOf k = some (.peerAsking a 0))) ∧
      (∀ p, .peer p ∈ due ↔ ∃ e, t.peer p = some e ∧ t.silenceTimeout ≤ e.age) ∧
      (.presence ∈ due ↔ (s.station = .listening ∨ s.station = .active) ∧
        ∃ x, s.own.presence = some x ∧ x < s.presencePeriod ∧ s.presencePeriod ≤ x + sampleTime s.rate) ∧
      (.silence ∈ due ↔ ∃ x, t.own.silence = some x ∧ t.halfSilence ≤ x) ∧
      (.listen ∈ due ↔ t.own.listen = some 0 ∧ t.monitor.timersRun = true) ∧
      (.leave ∈ due ↔ t.leaveLimit = some 0) ∧
      (s.TableLaw → due.Nodup)) ∧
    (∀ e, due = [.sample, e] →
      let u := { t with freeCount := t.freeCount + 2 }
      tick s = refreshAccess (samplePoint (refreshAccess (fireEvent e u))) ∨
      tick s = refreshAccess (fireEvent e (refreshAccess (samplePoint u)))) ∧
    ∃ order : List TickEvent, order.Perm due ∧
      (order.filterMap fun e => match e with
        | .peer p => some p
        | _ => none).Pairwise (fun p q => p.toNat < q.toNat) ∧
      tick s = order.foldl (fun u e => refreshAccess (fireEvent e u))
        (if 2 ≤ due.length then { t with freeCount := t.freeCount + due.length } else t)) ∧
  (∀ u : State, u.inReset = false →
    let taken (e : TickEvent) : Host.Outcome State Fault Refusal := .next (refreshAccess (fireEvent e u))
    fireEvent .sample u = samplePoint u ∧
    (u.monitor.timersRun = true →
      (∀ k, u.claimOf k = some (.asking (some 0)) → taken (.claim k) = exec (.windowExpiry k) u) ∧
      (∀ k a, u.claimOf k = some (.peerAsking a 0) → taken (.claim k) = exec (.deferralExpiry k) u) ∧
      (u.own.listen = some 0 → taken .listen = exec .listenExpiry u)) ∧
    (∀ p e, u.peer p = some e → u.silenceTimeout ≤ e.age → taken (.peer p) = exec (.peerSilent p) u) ∧
    (u.presenceCrosses = true → taken .presence = exec .presencePeriod u) ∧
    (∀ x, u.own.silence = some x → u.halfSilence ≤ x → taken .silence = exec .silenceCountExpiry u) ∧
    (u.leaveLimit = some 0 → taken .leave = exec .leaveLimitExpiry u) ∧
    ∀ e, e ∉ u.dueEvents u.presenceCrosses → fireEvent e u = u) ∧
  (∀ (s : State) (c : Configuration), s.config = some c →
    s.silenceTimeout = ms (16 * c.silenceUnit.toNat) ∧ s.halfSilence = ms (8 * c.silenceUnit.toNat) ∧
    s.presencePeriod = ms (4 * c.silenceUnit.toNat)) ∧
  (∀ s : State, s.config = none → s.silenceTimeout = ms 4080) ∧
  ∀ (s : State) (elapsed age : Nat), s.inReset = false → s.monitor = .idle elapsed age → 43 ≤ age →
    s.access = .slotWait ∨ s.access = .openWait →
    (∀ o rest b, s.urgent = o :: rest → s.Composes (.urgent o) b →
      tick s = tick { s with urgent := rest, access := begun s (.urgent o) b }) ∧
    (∀ o rest b, s.urgent = [] → s.normal = o :: rest → s.Composes (.normal o) b →
      tick s = tick { s with normal := rest, access := begun s (.normal o) b }) ∧
    ∀ k, s.urgent = [] → s.normal = [.ask k] → (∀ c, ¬ s.Composes (.normal (.ask k)) c) →
      tick s = tick { s with normal := [], access := .empty }

/-! ### Arrivals -/

/-- R25 to R27: a peer ASK, by the state of the key's entry, and what an OBJECT order is composed to: HELD while
the entry is MINE, EARLIER_ASK while its ASK is sent, and nothing in any other state. -/
def Obligations.AskArrivalByEntryState : Prop :=
  ∀ (s : State) (p : Addr) (k : Byte) (noisy : Bool) (c : Configuration), s.HearsAFrame → s.DispatchesAll →
    s.Foreign p → 1 ≤ k.toNat → k.toNat ≤ 254 → s.config = some c →
    let h := s.heard p none noisy
    (s.entry k = none → exec (.askArrival p k noisy) s = .next (refreshAccess h)) ∧
    ∀ n e, s.EntryAt n e → e.key = k →
      let deferred := h.putEntry n { e with claim := .peerAsking p (ms (2 * c.window.toNat)) }
      (e.claim = .free → exec (.askArrival p k noisy) s = .next (refreshAccess deferred)) ∧
      (∀ a d, e.claim = .peerAsking a d → exec (.askArrival p k noisy) s = .next (refreshAccess h)) ∧
      (∀ q, e.claim = .theirs q → exec (.askArrival p k noisy) s =
        .next (refreshAccess (if q = p then deferred else h))) ∧
      (e.claim = .asking none → exec (.askArrival p k noisy) s = .next (refreshAccess
        (let t := { deferred with normal := s.normal.filter fun o => !o.isAskOf k }
         if e.want = .once then
          (produce (.refused k .peerFirst p) t).putEntry n
            { e with claim := .peerAsking p (ms (2 * c.window.toNat)), want := .none }
         else t))) ∧
      ((∃ t, e.claim = .asking (some t)) ∨ e.claim = .mine → s.station.transmits = true →
        exec (.askArrival p k noisy) s = .next (refreshAccess
          { h with urgent := if .object k ∈ s.urgent then s.urgent else s.urgent ++ [.object k] })) ∧
      composeUrgent s (.object k) = match e.claim with
        | .mine => some (.object k (addrByte s.ownAddr) 1 e.gen)
        | .asking (some _) => some (.object k (addrByte s.ownAddr) 2 e.gen)
        | _ => none

/-- R28 to R30: a peer OBJECT, and R34, R35: a peer HOLD, at an entry that is not MINE. -/
def Obligations.ObjectAndHoldArrivalByEntryState : Prop :=
  (∀ (s : State) (p q : Addr) (k g : Byte) (noisy : Bool) (c : Configuration), s.HearsAFrame → s.DispatchesAll →
    s.Foreign p → s.Foreign q → 1 ≤ k.toNat → k.toNat ≤ 254 → s.config = some c →
    let h := s.heard p none noisy
    (s.entry k = none →
      exec (.objectArrival p k (addrByte q) 1 g noisy) s = .next (refreshAccess h) ∧
      exec (.objectArrival p k (addrByte q) 2 g noisy) s = .next (refreshAccess h)) ∧
    (s.ownAddr ≠ 0 →
      exec (.objectArrival p k 0 1 g noisy) s = .next (refreshAccess h) ∧
      exec (.objectArrival p k 0 2 g noisy) s = .next (refreshAccess h)) ∧
    ∀ n e, s.EntryAt n e → e.key = k →
      let held := { e with claim := .theirs q, gen := g }
      let deferred := { e with claim := .peerAsking q (ms (2 * c.window.toNat)) }
      (∀ t, e.claim = .asking t →
        exec (.objectArrival p k (addrByte q) 1 g noisy) s = .next (refreshAccess
          (let t := { h.putEntry n held with normal := s.normal.filter fun o => !o.isAskOf k }
           if e.want = .once then
            (produce (.refused k .peerHeld q) t).putEntry n { held with want := .none }
           else t)) ∧
        exec (.objectArrival p k (addrByte q) 2 g noisy) s = .next (refreshAccess
          (let t := { h.putEntry n deferred with normal := s.normal.filter fun o => !o.isAskOf k }
           if e.want = .once then
            (produce (.refused k .peerFirst q) t).putEntry n { deferred with want := .none }
           else t))) ∧
      (e.claim = .free →
        exec (.objectArrival p k (addrByte q) 1 g noisy) s =
          .next (refreshAccess (produce (.taken k q g) (h.putEntry n held))) ∧
        exec (.objectArrival p k (addrByte q) 2 g noisy) s =
          .next (refreshAccess (h.putEntry n deferred))) ∧
      (∀ a d, e.claim = .peerAsking a d →
        exec (.objectArrival p k (addrByte q) 1 g noisy) s =
          .next (refreshAccess (produce (.taken k q g) (h.putEntry n held))) ∧
        exec (.objectArrival p k (addrByte q) 2 g noisy) s = .next (refreshAccess h)) ∧
      (∀ x, e.claim = .theirs x →
        exec (.objectArrival p k (addrByte q) 1 g noisy) s = .next (refreshAccess
          (if x = q ∧ e.gen = g then h else produce (.taken k q g) (h.putEntry n held))) ∧
        exec (.objectArrival p k (addrByte q) 2 g noisy) s = .next (refreshAccess h))) ∧
  ∀ (s : State) (q : Addr) (k g : Byte) (noisy : Bool), s.HearsAFrame → s.DispatchesAll → s.Foreign q →
    1 ≤ k.toNat → k.toNat ≤ 254 →
    let h := s.heard q none noisy
    (s.entry k = none → exec (.holdArrival q k g noisy) s = .next (refreshAccess h)) ∧
    ∀ n e, s.EntryAt n e → e.key = k →
      let held := { e with claim := .theirs q, gen := g }
      (e.claim = .free ∨ (∃ a d, e.claim = .peerAsking a d) ∨ (∃ x, e.claim = .theirs x) →
        exec (.holdArrival q k g noisy) s =
          .next (refreshAccess (produce (.taken k q g) (h.putEntry n held)))) ∧
      (∀ t, e.claim = .asking t → exec (.holdArrival q k g noisy) s = .next (refreshAccess
        (let t := { h.putEntry n held with normal := s.normal.filter fun o => !o.isAskOf k }
         if e.want = .once then
          (produce (.refused k .peerHeld q) t).putEntry n { held with want := .none }
         else t)))

/-- R56 to R58: evidence of Q's hold at a MINE entry, a HOLD, an OBJECT or a pair of a PRESENCE (R53). The lower
address keeps the key with an advanced generation, the higher gives it up. -/
def Obligations.SplitGoesToTheLowerAddress : Prop :=
  ∀ (s : State) (q : Addr) (k g : Byte) (noisy : Bool) (n : Nat) (e : Entry) (c : Configuration),
    s.HearsAFrame → s.station = .active → s.config = some c → s.Foreign q →
    1 ≤ k.toNat → k.toNat ≤ 254 → s.EntryAt n e → e.key = k → e.claim = .mine →
    let h := s.heard q none noisy
    let gen := natByte (max e.gen.toNat g.toNat + 1)
    let kept (h : State) := .next (refreshAccess
      { produce (.reasserted k gen) (h.putEntry n { e with gen := gen }) with
        urgent := placeState (.hold k) s.urgent })
    let lost (h : State) (e' : Entry) := .next (refreshAccess
      (produce (.lost k .split q)
        { h.putEntry n e' with urgent := s.urgent.filter fun o => !o.isHoldOf k }))
    (s.ownAddr.toNat < q.toNat →
      exec (.holdArrival q k g noisy) s = kept h ∧
      exec (.objectArrival q k (addrByte q) 1 g noisy) s = kept h ∧
      exec (.objectArrival q k (addrByte q) 2 g noisy) s = kept h ∧
      (s.HoldsNone q → exec (.presenceArrival q false false [(k, g)] noisy) s =
        kept (s.heard q (some false) noisy))) ∧
    (q.toNat < s.ownAddr.toNat →
      exec (.holdArrival q k g noisy) s = lost h { e with claim := .theirs q, gen := g } ∧
      exec (.objectArrival q k (addrByte q) 1 g noisy) s = lost h { e with claim := .theirs q, gen := g } ∧
      exec (.objectArrival q k (addrByte q) 2 g noisy) s =
        lost h { e with claim := .peerAsking q (ms (2 * c.window.toNat)) } ∧
      (s.HoldsNone q → exec (.presenceArrival q false false [(k, g)] noisy) s =
        lost (s.heard q (some false) noisy) { e with claim := .theirs q, gen := g }))

/-- R45 to R47, R15: a peer FREE frees the entry it matches, and counts IGNORED at any other. -/
def Obligations.FreeArrivalFreesOrIsIgnored : Prop :=
  ∀ (s : State) (p : Addr) (k g : Byte) (withdrawn noisy : Bool), s.HearsAFrame → s.DispatchesAll →
    s.Foreign p → 1 ≤ k.toNat → k.toNat ≤ 254 → s.normal.length < 21 → s.LifeLaw →
    let h := s.heard p none noisy
    (s.entry k = none → exec (.freeArrival p k g withdrawn noisy) s = .next (refreshAccess h)) ∧
    ∀ n e, s.EntryAt n e → e.key = k →
      let ignored := .next (refreshAccess { h with counters := h.counters.bump .ignored })
      (e.claim = .theirs p → exec (.freeArrival p k g withdrawn noisy) s =
        .next (refreshAccess ((produce (.freed k p .released) h).freed n e))) ∧
      (∀ d, e.claim = .peerAsking p d → exec (.freeArrival p k g withdrawn noisy) s =
        if withdrawn = true then .next (refreshAccess (h.freed n e)) else ignored) ∧
      (e.claim = .free ∨ (∃ t, e.claim = .asking t) ∨ e.claim = .mine ∨
          (∃ q, e.claim = .theirs q ∧ q ≠ p) ∨ (∃ a d, e.claim = .peerAsking a d ∧ a ≠ p) →
        exec (.freeArrival p k g withdrawn noisy) s = ignored)

/-- The entry of a key after a pair with that key and this generation of a PRESENCE of P, at the station with
address `own` (R34, R35, R53, R57, R58). -/
def pairedEntry (own p : Addr) (g : Byte) (e : Entry) : Entry :=
  match e.claim with
  | .mine =>
    if own.toNat < p.toNat then { e with gen := natByte (max e.gen.toNat g.toNat + 1) }
    else { e with claim := .theirs p, gen := g }
  | .asking _ => { e with claim := .theirs p, gen := g, want := if e.want = .once then .none else e.want }
  | _ => { e with claim := .theirs p, gen := g }

/-- The notice of that pair; TAKEN only where the pair changes the entry (R34, R35, R53, R57, R58). -/
def pairNotice (own p : Addr) (g : Byte) (e : Entry) : Option Notice :=
  match e.claim with
  | .mine =>
    if own.toNat < p.toNat then some (.reasserted e.key (natByte (max e.gen.toNat g.toNat + 1)))
    else some (.lost e.key .split p)
  | .asking _ => if e.want = .once then some (.refused e.key .peerHeld p) else none
  | .theirs h => if h = p ∧ e.gen = g then none else some (.taken e.key p g)
  | _ => some (.taken e.key p g)

/-- The notices of the pairs of a PRESENCE of P in the order listed, each pair taken by its key's entry as the pairs
before it left it (R53). -/
def pairNotices (own p : Addr) : List (Byte × Byte) → (Byte → Option Entry) → List Notice
  | [], _ => []
  | (k, g) :: rest, entry =>
    ((entry k).bind (pairNotice own p g)).toList ++
      pairNotices own p rest fun j => if j = k then (entry k).map (pairedEntry own p g) else entry j

/-- The keys that a PRESENCE of P with these pairs frees, in ascending order: THEIRS of P and not listed (R54). -/
def unlistedKeys (s : State) (p : Addr) (pairs : List (Byte × Byte)) : List Byte :=
  s.keysAscending.filter fun k => s.claimOf k == some (.theirs p) && !pairs.any fun x => x.1 == k

/-- The ASK orders of the waiting asks that this restarts: in ACTIVE one for each (R37). -/
def restartedAsks (s : State) (p : Addr) (pairs : List (Byte × Byte)) : List NormalOrder :=
  if s.station = .active then
    ((unlistedKeys s p pairs).filter fun k => (s.entry k).map Entry.want == some .wait).map .ask
  else []

/-- The normal lane without the ASK orders of the asks that the pairs end (R35). -/
def keptOrders (s : State) (pairs : List (Byte × Byte)) : List NormalOrder :=
  s.normal.filter fun o => !pairs.any fun x => s.isAsking x.1 && o.isAskOf x.1

/-- R53, R54, R60: the reconciliation of a PRESENCE of P takes its pairs in the order listed, a key listed twice by
the entry as the first pair left it, and a key without an entry passed over. A pair at a MINE entry goes to the split
rule, one at an ASKING entry ends the ask and takes its ASK order away. Then every entry that is THEIRS of P and not
listed is freed in ascending order of key, its waiting ask starting again with an ASK order in ACTIVE. The notices
are those of the pairs, then FREED(k, P, RECONCILED), by the mask; no counter but NOTICES_LOST moves. -/
def Obligations.ReconciliationTakesThePairsThenFrees : Prop :=
  ∀ (s : State) (p : Addr) (pairs : List (Byte × Byte)), s.TableLaw →
    s.normal.length + (restartedAsks s p pairs).length ≤ 21 →
    let q := produceAll
      (pairNotices s.ownAddr p pairs s.entry ++
        (unlistedKeys s p pairs).map fun k => .freed k p .reconciled) s
    reconcile p pairs s =
      { s with
        table := s.table.map fun place => place.map fun e =>
          if e.key ∈ unlistedKeys s p pairs then
            { e with claim := if e.want = .wait then .asking none else .free }
          else (pairs.filter fun x => x.1 == e.key).foldl (fun f x => pairedEntry s.ownAddr p x.2 f) e
        urgent := pairs.foldl (fun lane x =>
          if s.isMine x.1 = false then lane
          else if p.toNat ≤ s.ownAddr.toNat then lane.filter fun o => !o.isHoldOf x.1
          else if s.station.transmits then placeState (.hold x.1) lane
          else lane) s.urgent
        normal := keptOrders s pairs ++ restartedAsks s p pairs
        notices := q.notices, counters := q.counters }

/-- An entry after a PRESENCE of P with these pairs, no key among them twice, at the station with address `own` (R35,
R53, R54, R57, R58). -/
def reconciledEntry (own p : Addr) (pairs : List (Byte × Byte)) (e : Entry) : Entry :=
  match pairs.find? (fun x => x.1 == e.key) with
  | some x => pairedEntry own p x.2 e
  | none =>
    if e.claim = .theirs p then
      { e with claim := if e.want = .wait then .asking none else .free }
    else e

/-- R53, R54, R65, R73: a PRESENCE without the leaving flag is reconciled pair by pair and answered when it is
joining, the answer joining the normal lane before or after the restarted ASK orders by a free value (log 6); a pair
that reaches an ASKING entry ends the ask (R35); one with the leaving flag declares its sender left. What a
reconciliation does stands in `ReconciliationTakesThePairsThenFrees`. -/
def Obligations.PresenceArrivalReconcilesOrDeparts : Prop :=
  ∀ (s : State) (p : Addr) (joining noisy : Bool) (pairs : List (Byte × Byte)), s.HearsAFrame → s.DispatchesAll →
    s.Foreign p → pairs.length ≤ 16 → (∀ x ∈ pairs, 1 ≤ x.1.toNat ∧ x.1.toNat ≤ 254) →
    (pairs.map Prod.fst).Nodup → s.TableLaw →
    (∃ t : State, exec (.presenceArrival p joining false pairs noisy) s = .next t ∧
      t.table = s.table.map (fun place => place.map (reconciledEntry s.ownAddr p pairs)) ∧
      t.roster = (s.heard p (some joining) noisy).roster ∧ t.lastSource = p ∧
      (joining = true → s.station = .active → t.normal.any NormalOrder.isPresence = true)) ∧
    (∀ n e g t, s.EntryAt n e → e.claim = .asking t → s.HoldsNone p → pairs = [(e.key, g)] →
      let held := { e with claim := .theirs p, gen := g }
      exec (.presenceArrival p false false pairs noisy) s = .next (refreshAccess
        (let t := { (s.heard p (some false) noisy).putEntry n held with
                    normal := s.normal.filter fun o => !o.isAskOf e.key }
         if e.want = .once then
          (produce (.refused e.key .peerHeld p) t).putEntry n { held with want := .none }
         else t))) ∧
    ((joining = false ∨ s.station ≠ .active) →
      exec (.presenceArrival p joining false pairs noisy) s =
        .next (refreshAccess (reconcile p pairs (s.heard p (some joining) noisy)))) ∧
    (s.station = .active →
      let r := reconcile p pairs (s.heard p (some true) noisy)
      let asks := restartedAsks s p pairs
      s.normal.length + 1 + asks.length ≤ 21 →
      (s.normal.any NormalOrder.isPresence = true →
        exec (.presenceArrival p true false pairs noisy) s = .next (refreshAccess r)) ∧
      (s.normal.any NormalOrder.isPresence = false →
        ∃ lane : List NormalOrder,
          (lane = keptOrders s pairs ++ asks ++ [.presence false] ∨
            lane = keptOrders s pairs ++ .presence false :: asks) ∧
          exec (.presenceArrival p true false pairs noisy) s = .next (refreshAccess
            { r with
              normal := lane, freeCount := if asks = [] then s.freeCount else s.freeCount + 1 }))) ∧
    exec (.presenceArrival p joining true pairs noisy) s = .next (refreshAccess (orphanRelease p
      (match s.peer p with
        | some e => produce (.peerLeft p (min 255 (e.frames + 1))) (setPeer p none (s.tookFrame p noisy))
        | none => s.tookFrame p noisy)))

/-- R48: orphan release frees every entry that names P as holder or asker, in ascending order of key. -/
def Obligations.OrphanReleaseFreesEveryClaimOfAPeer : Prop :=
  ∀ (s : State) (p : Addr), s.TableLaw →
    let named (e : Entry) : Bool := match e.claim with
      | .theirs h => h == p
      | .peerAsking a _ => a == p
      | _ => false
    let keys := s.keysAscending.filter fun k => ((s.entry k).map named).getD false
    (orphanRelease p s).table = (s.table.map fun place => place.map fun e =>
      if named e then { e with claim := if e.want = .wait then .asking none else .free } else e) ∧
    (orphanRelease p s).notices = (produceAll (keys.map fun k => .freed k p .orphaned) s).notices ∧
    (s.station = .active → s.normal.length + keys.length ≤ 21 →
      (orphanRelease p s).normal = s.normal ++
        ((keys.filter fun k => ((s.entry k).map fun e => e.want == .wait).getD false).map .ask)) ∧
    (s.station ≠ .active → (orphanRelease p s).normal = s.normal) ∧
    (orphanRelease p s).urgent = s.urgent ∧ (orphanRelease p s).roster = s.roster ∧
    (orphanRelease p s).access = s.access ∧ (orphanRelease p s).mailbox = s.mailbox ∧
    (orphanRelease p s).own = s.own

/-- R162, R163: a foreign POST is filtered by its destination, and delivered or dropped. -/
def Obligations.PostArrivalIsFilteredAndDelivered : Prop :=
  ∀ (s : State) (p : Addr) (d : Byte) (payload : List Byte) (noisy : Bool), s.HearsAFrame → s.DispatchesAll →
    s.Foreign p → s.ownAddr ≠ 0 → d.toNat ≤ 31 → 1 ≤ payload.length → payload.length ≤ 16 →
    let h := s.heard p none noisy
    let accepts := ∃ c, s.config = some c ∧ c.broadcast = true
    let delivered (m : Mail) := .next (refreshAccess
      (if s.mailbox.length < 4 then { h with mailbox := s.mailbox ++ [m] }
       else produce (.postDropped p) { h with counters := h.counters.bump .postsDropped }))
    (d = addrByte s.ownAddr → exec (.postArrival p d payload noisy) s =
      delivered { source := p, broadcast := false, payload := payload }) ∧
    (d = 0 → accepts → exec (.postArrival p d payload noisy) s =
      delivered { source := p, broadcast := true, payload := payload }) ∧
    (d = 0 → ¬ accepts → exec (.postArrival p d payload noisy) s = .next (refreshAccess h)) ∧
    (d ≠ 0 → d ≠ addrByte s.ownAddr → exec (.postArrival p d payload noisy) s = .next (refreshAccess h))

/-- R150: an address clash, by the station state. That the PEER_JOINED of a clashing OBJECT stands before the
notices of entry to MUTE is the model's choice (log 12). -/
def Obligations.AddressClashMarksOrMutes : Prop :=
  ∀ (s : State) (p : Addr) (noisy : Bool), s.HearsAFrame → s.ownAddr ≠ 0 → p ≠ 0 →
    let h := if p = s.ownAddr ∨ s.station = .offline then s.tookFrame p noisy else s.heard p none noisy
    (s.station = .unconfigured → exec (.addressClash p noisy) s =
      .next (refreshAccess { h with addrInUse := true })) ∧
    (s.station.transmits = true → exec (.addressClash p noisy) s =
      .next (refreshAccess (enterMute .clash h))) ∧
    (s.station = .mute ∨ s.station = .offline →
      exec (.addressClash p noisy) s = .next (refreshAccess h))

/-- What entry to MUTE does to an entry (R154). -/
def mutedEntry (e : Entry) : Entry :=
  { e with
    want := match e.claim with
      | .mine => .none
      | .asking _ => .none
      | _ => if e.want = .wait then .none else e.want
    claim := match e.claim with
      | .mine => .free
      | .asking _ => .free
      | c => c }

/-- The notice of an entry at entry to MUTE (R154). -/
def mutedNotice (s : State) (k : Byte) : Option Notice :=
  match s.entry k with
  | some e => match e.claim with
    | .mine => some (.lost k .muted 0)
    | .asking _ => some (.refused k .muted 0)
    | _ => if e.want = .wait then some (.refused k .muted 0) else none
  | none => none

/-- R125, R142, R154: entry to MUTE, with its notices in their order; no counter but NOTICES_LOST moves. -/
def Obligations.EntryToMuteDropsEverything : Prop :=
  ∀ (s : State) (cause : LineFault), s.TableLaw →
    let q := produceAll
        ((s.slotPost.toList ++ lanePosts s.normal).map (fun p => .postAbandoned p.tag) ++
         s.keysAscending.filterMap (mutedNotice s) ++ [.lineFault cause]) s
    enterMute cause s =
      { s with
        station := .mute, leaveLimit := none, access := .off, driveFaults := 0, urgent := [], normal := []
        table := s.table.map fun place => place.map mutedEntry
        own := { present := false, joining := false, silence := none, presence := none, listen := none }
        notices := q.notices, counters := q.counters }

/-! ### Getting onto the line -/

/-- R129: rank, slot and the rotation. -/
def Obligations.RankAndSlot : Prop :=
  ∀ s : State, s.ownAddr ≠ 0 →
    (s.rank : Int) = ((s.ownAddr.toNat : Int) - (s.lastSource.toNat : Int) - 1) % 31 ∧
    s.slot = 12 + s.rank ∧ 12 ≤ s.slot ∧ s.slot ≤ 42 ∧ openAge = 43 ∧
    (s.lastSource = 0 → s.rank = s.ownAddr.toNat - 1) ∧ (s.lastSource = s.ownAddr → s.rank = 30) ∧
    ∀ t : State, t.ownAddr ≠ 0 → t.lastSource = s.lastSource → t.ownAddr ≠ s.ownAddr → t.rank ≠ s.rank

/-- R128: the condition is EMPTY while both lanes are empty, and an order that joins empty lanes sets it by the
slot; on an open line it is OPEN_WAIT until the next tick (the model's choice, log 9). R130, R132 to R135: at its
slot, or on the open line once its slot was reached, a ready station takes the head order, the urgent lane first,
composes it and drives it; an order that has lapsed is passed over. A station in SLOT_WAIT whose slot was reached is
one after a drive fault, and its begin on the open line is the model's deduction (log 10). -/
def Obligations.AttemptBeginsWithTheHeadOrder : Prop :=
  (∀ s : State,
    (s.access = .off ∨ (∃ a, s.access = .driving a) → refreshAccess s = s) ∧
    (s.access = .empty ∨ s.access = .slotWait ∨ s.access = .openWait →
      (s.urgent = [] ∧ s.normal = [] → refreshAccess s = { s with access := .empty }) ∧
      (s.urgent ≠ [] ∨ s.normal ≠ [] → refreshAccess s =
        { s with
          access := match s.access, s.monitor with
            | .empty, .idle _ age => if age < s.slot then .slotWait else .openWait
            | .empty, _ => .slotWait
            | x, _ => x }))) ∧
  ∀ (s : State) (elapsed age target : Nat), s.inReset = false → s.monitor = .idle elapsed age →
    4 ≤ age → 8 * age ≤ elapsed → s.receiver.isStarting = false → s.station.transmits = true →
    (s.access = .slotWait ∧ age < s.slot ∧ target = s.slot) ∨
      ((s.access = .openWait ∨ (s.access = .slotWait ∧ s.slot ≤ age)) ∧ target = max age 43) →
    let at' := { s with monitor := .idle (max elapsed (8 * target)) target }
    let drive (t : State) (o : Order) (b : Body) : State :=
      { t with
        access := .driving
          { order := o, frame := { source := s.ownAddr, body := b }, driven := 0, checked := 0 } }
    (∀ o rest b, s.urgent = o :: rest → s.Composes (.urgent o) b →
      exec .attemptBegin s = .next (drive { at' with urgent := rest } (.urgent o) b)) ∧
    (∀ o rest b, s.urgent = [] → s.normal = o :: rest → s.Composes (.normal o) b →
      exec .attemptBegin s = .next (drive { at' with normal := rest } (.normal o) b)) ∧
    (∀ k o rest b, s.urgent = .object k :: o :: rest → (∀ c, ¬ s.Composes (.urgent (.object k)) c) →
      s.Composes (.urgent o) b →
      exec .attemptBegin s = .next (drive { at' with urgent := rest } (.urgent o) b)) ∧
    (∀ k, s.urgent = [] → s.normal = [.ask k] → (∀ c, ¬ s.Composes (.normal (.ask k)) c) →
      exec .attemptBegin s = .next { at' with normal := [], access := .empty })

/-- R124, R138: a yield counts YIELDS once, leaves the drive-fault count, and hands the frame back. R139: a
drive fault counts DRIVE_FAULTS and the consecutive count; below the retry limit the frame is handed back, at
the limit the station enters MUTE. R137: a bit read as driven is checked off, one driven recessive and read dominant
is a yield, one driven dominant and read recessive a drive fault; so is an own start bit not verified by own point
6, in a tick and on the way to a verdict (the samples of a verdict are the model's choice, log 24), and a candidate
judged false while the station drives it dominant, from own point 2 on (the model's choice, log 23). -/
def Obligations.ReadbackMatchesYieldsOrFaults : Prop :=
  ∀ (s : State) (a : Attempt), s.inReset = false → s.access = .driving a →
    let y := { s with counters := s.counters.bump .yields }
    let d := { s with counters := s.counters.bump .driveFaults, driveFaults := s.driveFaults + 1 }
    (s.monitor = .busy → s.receiver.awaitsStart = false →
      (s.TakesBack a.order → exec .yield s = .next (refreshAccess (y.handedBack a.order true))) ∧
      (¬ s.TakesBack a.order → exec .yield s = .next (refreshAccess (y.handedBack a.order false)))) ∧
    (∀ c, s.config = some c →
      (s.driveFaults + 1 < c.retryLimit.toNat →
        (s.TakesBack a.order → exec .driveFault s = .next (refreshAccess (d.handedBack a.order true))) ∧
        (¬ s.TakesBack a.order →
          exec .driveFault s = .next (refreshAccess (d.handedBack a.order false)))) ∧
      (c.retryLimit.toNat ≤ s.driveFaults + 1 →
        exec .driveFault s = .next (refreshAccess (enterMute .drive d)))) ∧
    (∀ read, a.frame.levelAt a.checked = read →
      handBit read s = { s with access := .driving { a with checked := a.checked + 1 } }) ∧
    (a.frame.levelAt a.checked = .dominant → .next (refreshAccess (handBit .recessive s)) = exec .driveFault s) ∧
    (a.frame.levelAt a.checked = .recessive → s.monitor = .busy → s.receiver.awaitsStart = false →
      .next (refreshAccess (handBit .dominant s)) = exec .yield s) ∧
    let unverified (driven : Nat) : Prop := a.checked ≤ 11 * (driven / 88) ∧ driven / 88 < a.frame.encode.length
    (a.driven % 88 = 6 → unverified a.driven → .next (refreshAccess (startOverdue s)) = exec .driveFault s) ∧
    (¬ (a.driven % 88 = 6 ∧ unverified a.driven) → startOverdue s = s) ∧
    (s.receiver.awaitsStart = true → s.monitor.isStuck = false → ∀ noisy : Bool,
      let sent : Attempt := { a with driven := a.driven + toVerdict s }
      let lost := ∃ i, i < toVerdict s ∧ 1 ≤ i ∧ (a.driven + i) % 88 = 6 ∧ unverified (a.driven + i)
      let drives := 2 ≤ sent.driven % 88 ∧ sent.driven % 88 ≤ 8 ∧ unverified sent.driven
      (lost → ∀ t, exec .driveFault s = .next t →
        exec (.startBitVerified noisy) s = exec (.startBitVerified noisy) t ∧
        exec .falseStart s = exec .falseStart t) ∧
      (¬ lost →
        (∃ r : Reception, r.bit = 0 ∧ r.point = 6 ∧ r.noisy = noisy ∧ r.bits = [] ∧
          exec (.startBitVerified noisy) s = .next (refreshAccess
            (handBit .dominant { verifiedLine noisy r s with access := .driving sent }))) ∧
        (drives → ∀ t, exec .driveFault s = .next t → exec .falseStart s = exec .falseStart t) ∧
        (¬ drives → exec .falseStart s = .next { judgedFalse s with access := .driving sent })))

/-- R95, R140 with R23, R24, R69, R74, R152, R160: a fully matched attempt completes. -/
def Obligations.AttemptCompletesAsAnOwnArrival : Prop :=
  ∀ (s : State) (a : Attempt) (noisy : Bool) (x : Time) (c : Configuration), s.inReset = false →
    s.access = .driving a → s.monitor.timersRun = true → s.own.silence = some x → s.config = some c →
    let own := { s.own with silence := some 0 }
    let t := { s.passed with
      access := .slotWait, driveFaults := 0, lastSource := s.ownAddr, own := own
      counters := if noisy then (s.counters.bump .framesOwn).bump .noisyFrames
        else s.counters.bump .framesOwn }
    (∀ o, a.order = .urgent o → exec (.attemptCompletes noisy) s = .next (refreshAccess t)) ∧
    (∀ k n e, a.order = .normal (.ask k) → s.EntryAt n e → e.key = k →
      (e.claim = .asking none → exec (.attemptCompletes noisy) s = .next (refreshAccess
        { t.putEntry n { e with claim := .asking (some (ms c.window.toNat)) } with
          normal := s.normal.filter fun o => !o.isAskOf k })) ∧
      (e.claim = .free → s.station.transmits = true → exec (.attemptCompletes noisy) s = .next
        (refreshAccess { t with urgent := placeState (.free k true) s.urgent }))) ∧
    (∀ p, a.order = .normal (.post p) → exec (.attemptCompletes noisy) s =
      .next (refreshAccess (produce (.postSent p.tag) t))) ∧
    (∀ j l pairs, a.order = .normal (.presence l) → a.frame.body = .presence j l pairs →
      let after := { t with
        own := { own with
          present := true, joining := j, presence := some 0
          listen := if s.own.present = false ∧ s.station = .listening then some (ms (8 * c.silenceUnit.toNat))
            else s.own.listen } }
      exec (.attemptCompletes noisy) s =
        .next (refreshAccess (if l then enterOffline .heard after else after)))

/-! ### Timers -/

/-- R31, R36, R37 with R9: the window of an ASKING entry or the deferral of a PEER_ASKING one expires while
it is not paused. -/
def Obligations.ClaimTimerExpiryGrantsOrFrees : Prop :=
  ∀ (s : State) (n : Nat) (e : Entry), s.inReset = false → s.EntryAt n e → s.LifeLaw →
    (∀ t, e.claim = .asking (some t) →
      (s.monitor.timersRun = true → exec (.windowExpiry e.key) s = .next (refreshAccess
        { produce (.granted e.key (e.gen + 1))
            (s.putEntry n { e with claim := .mine, gen := e.gen + 1, want := .none }) with
          urgent := placeState (.hold e.key) s.urgent })) ∧
      (s.monitor.timersRun = false → s.AccessFollows → exec (.windowExpiry e.key) s = .next s)) ∧
    ∀ a d, e.claim = .peerAsking a d →
      (s.monitor.timersRun = true → s.normal.length < 21 →
        exec (.deferralExpiry e.key) s = .next (refreshAccess (s.freed n e))) ∧
      (s.monitor.timersRun = false → s.AccessFollows → exec (.deferralExpiry e.key) s = .next s)

/-- A tick's passage of time (R8, R9, R61, R64, R69, R70, R74, R152): claim timers and the listen timer count
down while the Line Monitor is IDLE or BUSY and stand otherwise; ages, the silence count and the leave limit
go on in every state; nothing else changes. The tick's length is the model's choice (log 2): an eighth of a bit time
of 16, 8, 4 or 2 microseconds by the rate straps, in cycles of the 16 MHz REFCLK (00_scope). -/
def Obligations.ClocksAdvanceAndPause : Prop :=
  (8 * sampleTime 0 = 16 * 16 ∧ 8 * sampleTime 1 = 16 * 8 ∧ 8 * sampleTime 2 = 16 * 4 ∧ 8 * sampleTime 3 = 16 * 2 ∧
    ∀ n, ms n = 16 * (1000 * n)) ∧
  ∀ s : State,
    let dt := sampleTime s.rate
    (∃ table roster own leave, advanceClocks s =
      { s with table := table, roster := roster, own := own, leaveLimit := leave } ∧
      leave = s.leaveLimit.map (· - dt) ∧
      roster = s.roster.map (fun place => place.map fun p =>
        { p with age := min s.silenceTimeout (p.age + dt) }) ∧
      own.silence = s.own.silence.map (fun t => min s.halfSilence (t + dt)) ∧
      own.present = s.own.present ∧ own.joining = s.own.joining ∧
      own.presence = (if s.presenceCrosses then s.own.presence
        else s.own.presence.map fun t => min s.presencePeriod (t + dt)) ∧
      ((∃ n, s.monitor = .settling n) ∨ (∃ n, s.monitor = .stuck n) →
        table = s.table ∧ own.listen = s.own.listen) ∧
      ((∃ e a, s.monitor = .idle e a) ∨ s.monitor = .busy →
        own.listen = s.own.listen.map (· - dt) ∧
        table = s.table.map fun place => place.map fun e =>
          { e with
            claim := match e.claim with
              | .asking (some w) => .asking (some (w - dt))
              | .peerAsking a d => .peerAsking a (d - dt)
              | c => c }))

/-- R75, R20: the listen timer expires, and the held asks are placed in ascending order of key. -/
def Obligations.ListenExpiryMakesTheStationActive : Prop :=
  ∀ (s : State) (x : Time), s.inReset = false → s.station = .listening → s.own.listen = some x →
    s.monitor.timersRun = true → s.TableLaw →
    let held := s.keysAscending.filter fun k => s.claimOf k == some (.asking none)
    s.normal.length + held.length ≤ 21 →
    exec .listenExpiry s = .next (refreshAccess
      { produce (.joined (s.roster.countP Option.isSome))
          { s with station := .active, own := { s.own with listen := none } } with
        normal := s.normal ++ held.map .ask })

/-- The station after its entry to OFFLINE (R153). -/
def wentOffline (reason : LeftReason) (s : State) : State :=
  let q := produceAll
    ((s.slotPost.toList ++ lanePosts s.normal).map (fun p => .postAbandoned p.tag) ++ [.left reason]) s
  { s with
    station := .offline, leaveLimit := none, access := .off, driveFaults := 0, urgent := [], normal := []
    table := List.replicate 16 none, roster := List.replicate 32 none
    own := { present := false, joining := false, silence := none, presence := none, listen := none }
    notices := q.notices, counters := q.counters }

/-- R152, R153: the leave limit expires, and entry to OFFLINE clears table, roster, lanes and own entry, with
POST_ABANDONED for each post before LEFT; no counter but NOTICES_LOST moves. -/
def Obligations.LeaveLimitEntersOffline : Prop :=
  (∀ s : State, s.inReset = false → s.leaveLimit.isSome = true →
    exec .leaveLimitExpiry s = .next (wentOffline .unheard s)) ∧
  ∀ (s : State) (reason : LeftReason), enterOffline reason s = wentOffline reason s

/-- What an intact foreign frame from P does to an UNCONFIGURED station: its Roster entry alone, without
notices (R67, R94). `flag` is the joining flag of a PRESENCE. -/
def heardUnconfigured (p : Addr) (flag : Option Bool) (noisy : Bool) (s : State) : State :=
  { s.tookFrame p noisy with
    roster := s.roster.set p.toNat (some (match s.peer p with
      | some e => { age := 0, joining := flag.getD e.joining, frames := min 255 (e.frames + 1) }
      | none => { age := 0, joining := flag.getD false, frames := 1 })) }

/-- R63, R67: an intact foreign frame resets its source's age, or makes its entry PRESENT with PEER_JOINED;
R64: a peer whose age has reached the timeout is declared silent. R67, R94: in UNCONFIGURED a frame of any kind
reaches the Roster alone, without notices, and in OFFLINE the counters and last_source alone. -/
def Obligations.PeerIsRefreshedOrDeclaredSilent : Prop :=
  (∀ (s : State) (p : Addr) (k g precedent reason d : Byte) (payload : List Byte)
      (pairs : List (Byte × Byte)) (joining withdrawn noisy : Bool),
    s.HearsAFrame → s.Foreign p → 1 ≤ k.toNat → k.toNat ≤ 254 → precedent.toNat ≤ 31 →
    precedent ≠ addrByte s.ownAddr → reason = 1 ∨ reason = 2 → d.toNat ≤ 31 →
    1 ≤ payload.length → payload.length ≤ 16 → pairs.length ≤ 16 →
    (∀ x ∈ pairs, 1 ≤ x.1.toNat ∧ x.1.toNat ≤ 254) →
    let rows : List Instr :=
      [.askArrival p k noisy, .objectArrival p k precedent reason g noisy, .holdArrival p k g noisy,
       .freeArrival p k g withdrawn noisy, .postArrival p d payload noisy]
    (s.station = .offline →
      (∀ c ∈ rows, exec c s = .next (refreshAccess (s.tookFrame p noisy))) ∧
      ∀ leaving, exec (.presenceArrival p joining leaving pairs noisy) s =
        .next (refreshAccess (s.tookFrame p noisy))) ∧
    (s.station = .unconfigured → s.config = none →
      (∀ c ∈ rows, exec c s = .next (refreshAccess (heardUnconfigured p none noisy s))) ∧
      exec (.presenceArrival p joining false pairs noisy) s =
        .next (refreshAccess (heardUnconfigured p (some joining) noisy s)) ∧
      (s.table = List.replicate 16 none → exec (.presenceArrival p joining true pairs noisy) s =
        .next (refreshAccess { s.tookFrame p noisy with roster := s.roster.set p.toNat none })))) ∧
  ∀ (s : State) (p : Addr),
    (∀ flag e, s.peer p = some e → peerHeard p flag s =
      { s with
        roster := s.roster.set p.toNat
          (some { age := 0, joining := flag.getD e.joining, frames := min 255 (e.frames + 1) }) }) ∧
    (∀ flag : Option Bool, s.peer p = none → peerHeard p flag s = produce (.peerJoined p (flag.getD false))
      { s with
        roster := s.roster.set p.toNat (some { age := 0, joining := flag.getD false, frames := 1 }) }) ∧
    (s.inReset = false → ∀ e, s.peer p = some e →
      exec (.peerSilent p) s = .next (refreshAccess (orphanRelease p
        (produce (.peerSilent p e.frames) { s with roster := s.roster.set p.toNat none })))) ∧
    (s.inReset = false → s.peer p = none → s.AccessFollows → exec (.peerSilent p) s = .next s)

/-- R70: the presence count reaches T_s/4 and stops there; a PRESENCE is requested in LISTENING and ACTIVE
unless one is pending (R121). -/
def Obligations.PresencePeriodRequestsAPresence : Prop :=
  ∀ (s : State) (x : Time) (c : Configuration), s.inReset = false → s.config = some c →
    s.own.presence = some x → x < ms (4 * c.silenceUnit.toNat) →
    s.station = .listening ∨ s.station = .active →
    let own := { s.own with presence := some (ms (4 * c.silenceUnit.toNat)) }
    exec .presencePeriod s = .next (refreshAccess
      { s with
        own := own
        normal := if s.normal.any NormalOrder.isPresence || s.slotPresence then s.normal
          else s.normal ++ [.presence false] })

/-- What self-expiry does to an entry (R50, R51). -/
def expiredEntry (e : Entry) : Entry :=
  match e.claim with
  | .mine => { e with claim := .free }
  | .asking _ => { e with claim := .free, want := .none }
  | _ => if e.want = .wait then { e with want := .none } else e

/-- The notice of an entry at self-expiry (R50, R51). -/
def expiredNotice (s : State) (k : Byte) : Option Notice :=
  match s.entry k with
  | some e => match e.claim with
    | .mine => some (.lost k .silent 0)
    | .asking _ => some (.refused k .silent 0)
    | _ => if e.want = .wait then some (.refused k .silent 0) else none
  | none => none

/-- R72, R50, R51: the silence count reaches T_s/2 and restarts; in ACTIVE the station's own claims are
dropped and its asks ended; no counter but NOTICES_LOST moves. -/
def Obligations.SilenceCountDropsTheOwnClaims : Prop :=
  ∀ (s : State) (x : Time), s.inReset = false → s.own.silence = some x →
    (s.station ≠ .active → s.AccessFollows → exec .silenceCountExpiry s = .next
      { s with own := { s.own with silence := some 0 } }) ∧
    (s.station = .active → s.TableLaw → s.LaneLaw →
      let q := produceAll (s.keysAscending.filterMap (expiredNotice s)) s
      exec .silenceCountExpiry s = .next (refreshAccess
        { s with
          own := { s.own with silence := some 0 }
          table := s.table.map fun place => place.map expiredEntry
          urgent := s.keysAscending.foldl (fun l k =>
            match s.claimOf k with
            | some .mine => placeState (.free k false) (l.filter fun o => !o.isHoldOf k)
            | some (.asking (some _)) => placeState (.free k true) l
            | _ => l) s.urgent
          normal := s.normal.filter fun o => o.askKey.isNone
          notices := q.notices, counters := q.counters }))

/-! ### The laws every step keeps -/

/-- R1, R2: every step keeps the law of the Claim Table. -/
def Obligations.StepKeepsTableLaw : Prop :=
  ∀ s t : State, s.TableLaw → step s = .next t → t.TableLaw

/-- R4: an entry is MINE only in ACTIVE, ASKING only in LISTENING and ACTIVE, and what goes with it. -/
def Obligations.StepKeepsLifeLaw : Prop :=
  ∀ s t : State, s.TableLaw → s.LifeLaw → step s = .next t → t.LifeLaw

/-- R116, R119: every step keeps the laws of the lanes, which bound them. -/
def Obligations.StepKeepsLaneLaw : Prop :=
  (∀ s t : State, s.TableLaw → s.LifeLaw → s.LaneLaw → step s = .next t → t.LaneLaw) ∧
  ∀ s : State, s.TableLaw → s.LaneLaw → s.urgent.length ≤ 32 ∧ s.normal.length ≤ 21

/-- R163, R173, R175: every step keeps the laws of the Notice Queue and of the Mailbox, and the first bounds
the queue, with a LOST_NOTICES record last if at all. -/
def Obligations.StepKeepsNoticesAndMailboxLaws : Prop :=
  (∀ s t : State, NoticesLaw s.notices → step s = .next t → NoticesLaw t.notices) ∧
  (∀ s t : State, s.MailboxLaw → step s = .next t → t.MailboxLaw) ∧
  ∀ q : List Notice, NoticesLaw q →
    q.length ≤ 32 ∧ (∀ pre n post, q = pre ++ n :: post → n.isLost = true → post = []) ∧
    (q.length = 32 → ∃ n ∈ q, n.isLost = true)

/-- R128, R136, R145, R149, R152: every step keeps the law of the station's life, so that the station drives
the line dominant in no state but LISTENING, ACTIVE and LEAVING, and never while the Line Monitor is SETTLING or
STUCK. -/
def Obligations.StepKeepsStationLaw : Prop :=
  (∀ s t : State, s.StationLaw → step s = .next t → t.StationLaw) ∧
  ∀ s : State, s.StationLaw →
    s.station.transmits = false ∨ s.monitor.isSettling = true ∨ s.monitor.isStuck = true →
    s.ownLevel = .recessive

/-- R61 to R64: every step keeps the law of the Roster. -/
def Obligations.StepKeepsRosterLaw : Prop :=
  ∀ s t : State, s.StationLaw → s.RosterLaw → step s = .next t → t.RosterLaw

/-- R128: after every step the Access Engine's condition follows the lanes. -/
def Obligations.StepKeepsAccessFollows : Prop :=
  ∀ s t : State, s.AccessFollows → step s = .next t → t.AccessFollows
end

