-- ==== Sys2Proof/Laws/State.lean ====
section
/-! SUPPORT. What each update of the state leaves as it stands: one equation per update, one lemma per
field. -/

namespace Sys2Proof.Machine

/-! ### The updates as record updates -/

/-- A produced notice changes the queue and its loss counter alone. -/
theorem produce_eq (n : Notice) (s : State) :
    produce n s = { s with notices := (produce n s).notices, counters := (produce n s).counters } := by
  simp only [produce, appendNotice]; (repeat' split) <;> rfl

/-- A state order request changes the urgent lane alone. -/
theorem requestState_eq (o : UrgentOrder) (s : State) :
    requestState o s = { s with urgent := (requestState o s).urgent } := by
  simp only [requestState]; split <;> rfl

/-- An OBJECT request changes the urgent lane alone. -/
theorem requestObject_eq (k : Byte) (s : State) :
    requestObject k s = { s with urgent := (requestObject k s).urgent } := by
  simp only [requestObject]; split <;> rfl

/-- A PRESENCE request changes the normal lane alone. -/
theorem requestPresence_eq (s : State) :
    requestPresence s = { s with normal := (requestPresence s).normal } := by
  simp only [requestPresence]; split <;> rfl

/-- The leaving PRESENCE request changes the normal lane alone. -/
theorem requestLeaving_eq (s : State) :
    requestLeaving s = { s with normal := (requestLeaving s).normal } := by
  simp only [requestLeaving]; split <;> rfl

/-- Following the lanes changes the Access Engine's condition alone. -/
theorem refreshAccess_eq (s : State) :
    refreshAccess s = { s with access := (refreshAccess s).access } := by
  simp only [refreshAccess]; (repeat' split) <;> rfl

/-! ### count -/

@[simp] theorem count_inReset (c : Counter) (s : State) : (count c s).inReset = s.inReset := rfl
@[simp] theorem count_ownAddr (c : Counter) (s : State) : (count c s).ownAddr = s.ownAddr := rfl
@[simp] theorem count_rate (c : Counter) (s : State) : (count c s).rate = s.rate := rfl
@[simp] theorem count_station (c : Counter) (s : State) : (count c s).station = s.station := rfl
@[simp] theorem count_config (c : Counter) (s : State) : (count c s).config = s.config := rfl
@[simp] theorem count_addrInUse (c : Counter) (s : State) : (count c s).addrInUse = s.addrInUse := rfl
@[simp] theorem count_leaveLimit (c : Counter) (s : State) : (count c s).leaveLimit = s.leaveLimit := rfl
@[simp] theorem count_receiver (c : Counter) (s : State) : (count c s).receiver = s.receiver := rfl
@[simp] theorem count_monitor (c : Counter) (s : State) : (count c s).monitor = s.monitor := rfl
@[simp] theorem count_run (c : Counter) (s : State) : (count c s).run = s.run := rfl
@[simp] theorem count_longMark (c : Counter) (s : State) : (count c s).longMark = s.longMark := rfl
@[simp] theorem count_lastSource (c : Counter) (s : State) : (count c s).lastSource = s.lastSource := rfl
@[simp] theorem count_decoder (c : Counter) (s : State) : (count c s).decoder = s.decoder := rfl
@[simp] theorem count_table (c : Counter) (s : State) : (count c s).table = s.table := rfl
@[simp] theorem count_roster (c : Counter) (s : State) : (count c s).roster = s.roster := rfl
@[simp] theorem count_own (c : Counter) (s : State) : (count c s).own = s.own := rfl
@[simp] theorem count_urgent (c : Counter) (s : State) : (count c s).urgent = s.urgent := rfl
@[simp] theorem count_normal (c : Counter) (s : State) : (count c s).normal = s.normal := rfl
@[simp] theorem count_access (c : Counter) (s : State) : (count c s).access = s.access := rfl
@[simp] theorem count_driveFaults (c : Counter) (s : State) : (count c s).driveFaults = s.driveFaults := rfl
@[simp] theorem count_mailbox (c : Counter) (s : State) : (count c s).mailbox = s.mailbox := rfl
@[simp] theorem count_port (c : Counter) (s : State) : (count c s).port = s.port := rfl
@[simp] theorem count_result (c : Counter) (s : State) : (count c s).result = s.result := rfl
@[simp] theorem count_notices (c : Counter) (s : State) : (count c s).notices = s.notices := rfl
@[simp] theorem count_refused (c : Counter) (s : State) : (count c s).refused = s.refused := rfl
@[simp] theorem count_portError (c : Counter) (s : State) : (count c s).portError = s.portError := rfl
@[simp] theorem count_sdo (c : Counter) (s : State) : (count c s).sdo = s.sdo := rfl
@[simp] theorem count_pending (c : Counter) (s : State) : (count c s).pending = s.pending := rfl
@[simp] theorem count_line (c : Counter) (s : State) : (count c s).line = s.line := rfl
@[simp] theorem count_freeCount (c : Counter) (s : State) : (count c s).freeCount = s.freeCount := rfl

/-! ### setEntry -/

@[simp] theorem setEntry_inReset (k : Byte) (f : Entry → Entry) (s : State) : (setEntry k f s).inReset = s.inReset := rfl
@[simp] theorem setEntry_ownAddr (k : Byte) (f : Entry → Entry) (s : State) : (setEntry k f s).ownAddr = s.ownAddr := rfl
@[simp] theorem setEntry_rate (k : Byte) (f : Entry → Entry) (s : State) : (setEntry k f s).rate = s.rate := rfl
@[simp] theorem setEntry_station (k : Byte) (f : Entry → Entry) (s : State) : (setEntry k f s).station = s.station := rfl
@[simp] theorem setEntry_config (k : Byte) (f : Entry → Entry) (s : State) : (setEntry k f s).config = s.config := rfl
@[simp] theorem setEntry_addrInUse (k : Byte) (f : Entry → Entry) (s : State) : (setEntry k f s).addrInUse = s.addrInUse := rfl
@[simp] theorem setEntry_leaveLimit (k : Byte) (f : Entry → Entry) (s : State) : (setEntry k f s).leaveLimit = s.leaveLimit := rfl
@[simp] theorem setEntry_receiver (k : Byte) (f : Entry → Entry) (s : State) : (setEntry k f s).receiver = s.receiver := rfl
@[simp] theorem setEntry_monitor (k : Byte) (f : Entry → Entry) (s : State) : (setEntry k f s).monitor = s.monitor := rfl
@[simp] theorem setEntry_run (k : Byte) (f : Entry → Entry) (s : State) : (setEntry k f s).run = s.run := rfl
@[simp] theorem setEntry_longMark (k : Byte) (f : Entry → Entry) (s : State) : (setEntry k f s).longMark = s.longMark := rfl
@[simp] theorem setEntry_lastSource (k : Byte) (f : Entry → Entry) (s : State) : (setEntry k f s).lastSource = s.lastSource := rfl
@[simp] theorem setEntry_decoder (k : Byte) (f : Entry → Entry) (s : State) : (setEntry k f s).decoder = s.decoder := rfl
@[simp] theorem setEntry_roster (k : Byte) (f : Entry → Entry) (s : State) : (setEntry k f s).roster = s.roster := rfl
@[simp] theorem setEntry_own (k : Byte) (f : Entry → Entry) (s : State) : (setEntry k f s).own = s.own := rfl
@[simp] theorem setEntry_urgent (k : Byte) (f : Entry → Entry) (s : State) : (setEntry k f s).urgent = s.urgent := rfl
@[simp] theorem setEntry_normal (k : Byte) (f : Entry → Entry) (s : State) : (setEntry k f s).normal = s.normal := rfl
@[simp] theorem setEntry_access (k : Byte) (f : Entry → Entry) (s : State) : (setEntry k f s).access = s.access := rfl
@[simp] theorem setEntry_driveFaults (k : Byte) (f : Entry → Entry) (s : State) : (setEntry k f s).driveFaults = s.driveFaults := rfl
@[simp] theorem setEntry_mailbox (k : Byte) (f : Entry → Entry) (s : State) : (setEntry k f s).mailbox = s.mailbox := rfl
@[simp] theorem setEntry_port (k : Byte) (f : Entry → Entry) (s : State) : (setEntry k f s).port = s.port := rfl
@[simp] theorem setEntry_result (k : Byte) (f : Entry → Entry) (s : State) : (setEntry k f s).result = s.result := rfl
@[simp] theorem setEntry_notices (k : Byte) (f : Entry → Entry) (s : State) : (setEntry k f s).notices = s.notices := rfl
@[simp] theorem setEntry_counters (k : Byte) (f : Entry → Entry) (s : State) : (setEntry k f s).counters = s.counters := rfl
@[simp] theorem setEntry_refused (k : Byte) (f : Entry → Entry) (s : State) : (setEntry k f s).refused = s.refused := rfl
@[simp] theorem setEntry_portError (k : Byte) (f : Entry → Entry) (s : State) : (setEntry k f s).portError = s.portError := rfl
@[simp] theorem setEntry_sdo (k : Byte) (f : Entry → Entry) (s : State) : (setEntry k f s).sdo = s.sdo := rfl
@[simp] theorem setEntry_pending (k : Byte) (f : Entry → Entry) (s : State) : (setEntry k f s).pending = s.pending := rfl
@[simp] theorem setEntry_line (k : Byte) (f : Entry → Entry) (s : State) : (setEntry k f s).line = s.line := rfl
@[simp] theorem setEntry_freeCount (k : Byte) (f : Entry → Entry) (s : State) : (setEntry k f s).freeCount = s.freeCount := rfl

/-! ### setClaim -/

@[simp] theorem setClaim_inReset (k : Byte) (c : Claim) (s : State) : (setClaim k c s).inReset = s.inReset := rfl
@[simp] theorem setClaim_ownAddr (k : Byte) (c : Claim) (s : State) : (setClaim k c s).ownAddr = s.ownAddr := rfl
@[simp] theorem setClaim_rate (k : Byte) (c : Claim) (s : State) : (setClaim k c s).rate = s.rate := rfl
@[simp] theorem setClaim_station (k : Byte) (c : Claim) (s : State) : (setClaim k c s).station = s.station := rfl
@[simp] theorem setClaim_config (k : Byte) (c : Claim) (s : State) : (setClaim k c s).config = s.config := rfl
@[simp] theorem setClaim_addrInUse (k : Byte) (c : Claim) (s : State) : (setClaim k c s).addrInUse = s.addrInUse := rfl
@[simp] theorem setClaim_leaveLimit (k : Byte) (c : Claim) (s : State) : (setClaim k c s).leaveLimit = s.leaveLimit := rfl
@[simp] theorem setClaim_receiver (k : Byte) (c : Claim) (s : State) : (setClaim k c s).receiver = s.receiver := rfl
@[simp] theorem setClaim_monitor (k : Byte) (c : Claim) (s : State) : (setClaim k c s).monitor = s.monitor := rfl
@[simp] theorem setClaim_run (k : Byte) (c : Claim) (s : State) : (setClaim k c s).run = s.run := rfl
@[simp] theorem setClaim_longMark (k : Byte) (c : Claim) (s : State) : (setClaim k c s).longMark = s.longMark := rfl
@[simp] theorem setClaim_lastSource (k : Byte) (c : Claim) (s : State) : (setClaim k c s).lastSource = s.lastSource := rfl
@[simp] theorem setClaim_decoder (k : Byte) (c : Claim) (s : State) : (setClaim k c s).decoder = s.decoder := rfl
@[simp] theorem setClaim_roster (k : Byte) (c : Claim) (s : State) : (setClaim k c s).roster = s.roster := rfl
@[simp] theorem setClaim_own (k : Byte) (c : Claim) (s : State) : (setClaim k c s).own = s.own := rfl
@[simp] theorem setClaim_urgent (k : Byte) (c : Claim) (s : State) : (setClaim k c s).urgent = s.urgent := rfl
@[simp] theorem setClaim_normal (k : Byte) (c : Claim) (s : State) : (setClaim k c s).normal = s.normal := rfl
@[simp] theorem setClaim_access (k : Byte) (c : Claim) (s : State) : (setClaim k c s).access = s.access := rfl
@[simp] theorem setClaim_driveFaults (k : Byte) (c : Claim) (s : State) : (setClaim k c s).driveFaults = s.driveFaults := rfl
@[simp] theorem setClaim_mailbox (k : Byte) (c : Claim) (s : State) : (setClaim k c s).mailbox = s.mailbox := rfl
@[simp] theorem setClaim_port (k : Byte) (c : Claim) (s : State) : (setClaim k c s).port = s.port := rfl
@[simp] theorem setClaim_result (k : Byte) (c : Claim) (s : State) : (setClaim k c s).result = s.result := rfl
@[simp] theorem setClaim_notices (k : Byte) (c : Claim) (s : State) : (setClaim k c s).notices = s.notices := rfl
@[simp] theorem setClaim_counters (k : Byte) (c : Claim) (s : State) : (setClaim k c s).counters = s.counters := rfl
@[simp] theorem setClaim_refused (k : Byte) (c : Claim) (s : State) : (setClaim k c s).refused = s.refused := rfl
@[simp] theorem setClaim_portError (k : Byte) (c : Claim) (s : State) : (setClaim k c s).portError = s.portError := rfl
@[simp] theorem setClaim_sdo (k : Byte) (c : Claim) (s : State) : (setClaim k c s).sdo = s.sdo := rfl
@[simp] theorem setClaim_pending (k : Byte) (c : Claim) (s : State) : (setClaim k c s).pending = s.pending := rfl
@[simp] theorem setClaim_line (k : Byte) (c : Claim) (s : State) : (setClaim k c s).line = s.line := rfl
@[simp] theorem setClaim_freeCount (k : Byte) (c : Claim) (s : State) : (setClaim k c s).freeCount = s.freeCount := rfl

/-! ### setClaimGen -/

@[simp] theorem setClaimGen_inReset (k : Byte) (c : Claim) (g : Byte) (s : State) : (setClaimGen k c g s).inReset = s.inReset := rfl
@[simp] theorem setClaimGen_ownAddr (k : Byte) (c : Claim) (g : Byte) (s : State) : (setClaimGen k c g s).ownAddr = s.ownAddr := rfl
@[simp] theorem setClaimGen_rate (k : Byte) (c : Claim) (g : Byte) (s : State) : (setClaimGen k c g s).rate = s.rate := rfl
@[simp] theorem setClaimGen_station (k : Byte) (c : Claim) (g : Byte) (s : State) : (setClaimGen k c g s).station = s.station := rfl
@[simp] theorem setClaimGen_config (k : Byte) (c : Claim) (g : Byte) (s : State) : (setClaimGen k c g s).config = s.config := rfl
@[simp] theorem setClaimGen_addrInUse (k : Byte) (c : Claim) (g : Byte) (s : State) : (setClaimGen k c g s).addrInUse = s.addrInUse := rfl
@[simp] theorem setClaimGen_leaveLimit (k : Byte) (c : Claim) (g : Byte) (s : State) : (setClaimGen k c g s).leaveLimit = s.leaveLimit := rfl
@[simp] theorem setClaimGen_receiver (k : Byte) (c : Claim) (g : Byte) (s : State) : (setClaimGen k c g s).receiver = s.receiver := rfl
@[simp] theorem setClaimGen_monitor (k : Byte) (c : Claim) (g : Byte) (s : State) : (setClaimGen k c g s).monitor = s.monitor := rfl
@[simp] theorem setClaimGen_run (k : Byte) (c : Claim) (g : Byte) (s : State) : (setClaimGen k c g s).run = s.run := rfl
@[simp] theorem setClaimGen_longMark (k : Byte) (c : Claim) (g : Byte) (s : State) : (setClaimGen k c g s).longMark = s.longMark := rfl
@[simp] theorem setClaimGen_lastSource (k : Byte) (c : Claim) (g : Byte) (s : State) : (setClaimGen k c g s).lastSource = s.lastSource := rfl
@[simp] theorem setClaimGen_decoder (k : Byte) (c : Claim) (g : Byte) (s : State) : (setClaimGen k c g s).decoder = s.decoder := rfl
@[simp] theorem setClaimGen_roster (k : Byte) (c : Claim) (g : Byte) (s : State) : (setClaimGen k c g s).roster = s.roster := rfl
@[simp] theorem setClaimGen_own (k : Byte) (c : Claim) (g : Byte) (s : State) : (setClaimGen k c g s).own = s.own := rfl
@[simp] theorem setClaimGen_urgent (k : Byte) (c : Claim) (g : Byte) (s : State) : (setClaimGen k c g s).urgent = s.urgent := rfl
@[simp] theorem setClaimGen_normal (k : Byte) (c : Claim) (g : Byte) (s : State) : (setClaimGen k c g s).normal = s.normal := rfl
@[simp] theorem setClaimGen_access (k : Byte) (c : Claim) (g : Byte) (s : State) : (setClaimGen k c g s).access = s.access := rfl
@[simp] theorem setClaimGen_driveFaults (k : Byte) (c : Claim) (g : Byte) (s : State) : (setClaimGen k c g s).driveFaults = s.driveFaults := rfl
@[simp] theorem setClaimGen_mailbox (k : Byte) (c : Claim) (g : Byte) (s : State) : (setClaimGen k c g s).mailbox = s.mailbox := rfl
@[simp] theorem setClaimGen_port (k : Byte) (c : Claim) (g : Byte) (s : State) : (setClaimGen k c g s).port = s.port := rfl
@[simp] theorem setClaimGen_result (k : Byte) (c : Claim) (g : Byte) (s : State) : (setClaimGen k c g s).result = s.result := rfl
@[simp] theorem setClaimGen_notices (k : Byte) (c : Claim) (g : Byte) (s : State) : (setClaimGen k c g s).notices = s.notices := rfl
@[simp] theorem setClaimGen_counters (k : Byte) (c : Claim) (g : Byte) (s : State) : (setClaimGen k c g s).counters = s.counters := rfl
@[simp] theorem setClaimGen_refused (k : Byte) (c : Claim) (g : Byte) (s : State) : (setClaimGen k c g s).refused = s.refused := rfl
@[simp] theorem setClaimGen_portError (k : Byte) (c : Claim) (g : Byte) (s : State) : (setClaimGen k c g s).portError = s.portError := rfl
@[simp] theorem setClaimGen_sdo (k : Byte) (c : Claim) (g : Byte) (s : State) : (setClaimGen k c g s).sdo = s.sdo := rfl
@[simp] theorem setClaimGen_pending (k : Byte) (c : Claim) (g : Byte) (s : State) : (setClaimGen k c g s).pending = s.pending := rfl
@[simp] theorem setClaimGen_line (k : Byte) (c : Claim) (g : Byte) (s : State) : (setClaimGen k c g s).line = s.line := rfl
@[simp] theorem setClaimGen_freeCount (k : Byte) (c : Claim) (g : Byte) (s : State) : (setClaimGen k c g s).freeCount = s.freeCount := rfl

/-! ### setWant -/

@[simp] theorem setWant_inReset (k : Byte) (w : Want) (s : State) : (setWant k w s).inReset = s.inReset := rfl
@[simp] theorem setWant_ownAddr (k : Byte) (w : Want) (s : State) : (setWant k w s).ownAddr = s.ownAddr := rfl
@[simp] theorem setWant_rate (k : Byte) (w : Want) (s : State) : (setWant k w s).rate = s.rate := rfl
@[simp] theorem setWant_station (k : Byte) (w : Want) (s : State) : (setWant k w s).station = s.station := rfl
@[simp] theorem setWant_config (k : Byte) (w : Want) (s : State) : (setWant k w s).config = s.config := rfl
@[simp] theorem setWant_addrInUse (k : Byte) (w : Want) (s : State) : (setWant k w s).addrInUse = s.addrInUse := rfl
@[simp] theorem setWant_leaveLimit (k : Byte) (w : Want) (s : State) : (setWant k w s).leaveLimit = s.leaveLimit := rfl
@[simp] theorem setWant_receiver (k : Byte) (w : Want) (s : State) : (setWant k w s).receiver = s.receiver := rfl
@[simp] theorem setWant_monitor (k : Byte) (w : Want) (s : State) : (setWant k w s).monitor = s.monitor := rfl
@[simp] theorem setWant_run (k : Byte) (w : Want) (s : State) : (setWant k w s).run = s.run := rfl
@[simp] theorem setWant_longMark (k : Byte) (w : Want) (s : State) : (setWant k w s).longMark = s.longMark := rfl
@[simp] theorem setWant_lastSource (k : Byte) (w : Want) (s : State) : (setWant k w s).lastSource = s.lastSource := rfl
@[simp] theorem setWant_decoder (k : Byte) (w : Want) (s : State) : (setWant k w s).decoder = s.decoder := rfl
@[simp] theorem setWant_roster (k : Byte) (w : Want) (s : State) : (setWant k w s).roster = s.roster := rfl
@[simp] theorem setWant_own (k : Byte) (w : Want) (s : State) : (setWant k w s).own = s.own := rfl
@[simp] theorem setWant_urgent (k : Byte) (w : Want) (s : State) : (setWant k w s).urgent = s.urgent := rfl
@[simp] theorem setWant_normal (k : Byte) (w : Want) (s : State) : (setWant k w s).normal = s.normal := rfl
@[simp] theorem setWant_access (k : Byte) (w : Want) (s : State) : (setWant k w s).access = s.access := rfl
@[simp] theorem setWant_driveFaults (k : Byte) (w : Want) (s : State) : (setWant k w s).driveFaults = s.driveFaults := rfl
@[simp] theorem setWant_mailbox (k : Byte) (w : Want) (s : State) : (setWant k w s).mailbox = s.mailbox := rfl
@[simp] theorem setWant_port (k : Byte) (w : Want) (s : State) : (setWant k w s).port = s.port := rfl
@[simp] theorem setWant_result (k : Byte) (w : Want) (s : State) : (setWant k w s).result = s.result := rfl
@[simp] theorem setWant_notices (k : Byte) (w : Want) (s : State) : (setWant k w s).notices = s.notices := rfl
@[simp] theorem setWant_counters (k : Byte) (w : Want) (s : State) : (setWant k w s).counters = s.counters := rfl
@[simp] theorem setWant_refused (k : Byte) (w : Want) (s : State) : (setWant k w s).refused = s.refused := rfl
@[simp] theorem setWant_portError (k : Byte) (w : Want) (s : State) : (setWant k w s).portError = s.portError := rfl
@[simp] theorem setWant_sdo (k : Byte) (w : Want) (s : State) : (setWant k w s).sdo = s.sdo := rfl
@[simp] theorem setWant_pending (k : Byte) (w : Want) (s : State) : (setWant k w s).pending = s.pending := rfl
@[simp] theorem setWant_line (k : Byte) (w : Want) (s : State) : (setWant k w s).line = s.line := rfl
@[simp] theorem setWant_freeCount (k : Byte) (w : Want) (s : State) : (setWant k w s).freeCount = s.freeCount := rfl

/-! ### setPeer -/

@[simp] theorem setPeer_inReset (p : Addr) (e : Option Peer) (s : State) : (setPeer p e s).inReset = s.inReset := rfl
@[simp] theorem setPeer_ownAddr (p : Addr) (e : Option Peer) (s : State) : (setPeer p e s).ownAddr = s.ownAddr := rfl
@[simp] theorem setPeer_rate (p : Addr) (e : Option Peer) (s : State) : (setPeer p e s).rate = s.rate := rfl
@[simp] theorem setPeer_station (p : Addr) (e : Option Peer) (s : State) : (setPeer p e s).station = s.station := rfl
@[simp] theorem setPeer_config (p : Addr) (e : Option Peer) (s : State) : (setPeer p e s).config = s.config := rfl
@[simp] theorem setPeer_addrInUse (p : Addr) (e : Option Peer) (s : State) : (setPeer p e s).addrInUse = s.addrInUse := rfl
@[simp] theorem setPeer_leaveLimit (p : Addr) (e : Option Peer) (s : State) : (setPeer p e s).leaveLimit = s.leaveLimit := rfl
@[simp] theorem setPeer_receiver (p : Addr) (e : Option Peer) (s : State) : (setPeer p e s).receiver = s.receiver := rfl
@[simp] theorem setPeer_monitor (p : Addr) (e : Option Peer) (s : State) : (setPeer p e s).monitor = s.monitor := rfl
@[simp] theorem setPeer_run (p : Addr) (e : Option Peer) (s : State) : (setPeer p e s).run = s.run := rfl
@[simp] theorem setPeer_longMark (p : Addr) (e : Option Peer) (s : State) : (setPeer p e s).longMark = s.longMark := rfl
@[simp] theorem setPeer_lastSource (p : Addr) (e : Option Peer) (s : State) : (setPeer p e s).lastSource = s.lastSource := rfl
@[simp] theorem setPeer_decoder (p : Addr) (e : Option Peer) (s : State) : (setPeer p e s).decoder = s.decoder := rfl
@[simp] theorem setPeer_table (p : Addr) (e : Option Peer) (s : State) : (setPeer p e s).table = s.table := rfl
@[simp] theorem setPeer_own (p : Addr) (e : Option Peer) (s : State) : (setPeer p e s).own = s.own := rfl
@[simp] theorem setPeer_urgent (p : Addr) (e : Option Peer) (s : State) : (setPeer p e s).urgent = s.urgent := rfl
@[simp] theorem setPeer_normal (p : Addr) (e : Option Peer) (s : State) : (setPeer p e s).normal = s.normal := rfl
@[simp] theorem setPeer_access (p : Addr) (e : Option Peer) (s : State) : (setPeer p e s).access = s.access := rfl
@[simp] theorem setPeer_driveFaults (p : Addr) (e : Option Peer) (s : State) : (setPeer p e s).driveFaults = s.driveFaults := rfl
@[simp] theorem setPeer_mailbox (p : Addr) (e : Option Peer) (s : State) : (setPeer p e s).mailbox = s.mailbox := rfl
@[simp] theorem setPeer_port (p : Addr) (e : Option Peer) (s : State) : (setPeer p e s).port = s.port := rfl
@[simp] theorem setPeer_result (p : Addr) (e : Option Peer) (s : State) : (setPeer p e s).result = s.result := rfl
@[simp] theorem setPeer_notices (p : Addr) (e : Option Peer) (s : State) : (setPeer p e s).notices = s.notices := rfl
@[simp] theorem setPeer_counters (p : Addr) (e : Option Peer) (s : State) : (setPeer p e s).counters = s.counters := rfl
@[simp] theorem setPeer_refused (p : Addr) (e : Option Peer) (s : State) : (setPeer p e s).refused = s.refused := rfl
@[simp] theorem setPeer_portError (p : Addr) (e : Option Peer) (s : State) : (setPeer p e s).portError = s.portError := rfl
@[simp] theorem setPeer_sdo (p : Addr) (e : Option Peer) (s : State) : (setPeer p e s).sdo = s.sdo := rfl
@[simp] theorem setPeer_pending (p : Addr) (e : Option Peer) (s : State) : (setPeer p e s).pending = s.pending := rfl
@[simp] theorem setPeer_line (p : Addr) (e : Option Peer) (s : State) : (setPeer p e s).line = s.line := rfl
@[simp] theorem setPeer_freeCount (p : Addr) (e : Option Peer) (s : State) : (setPeer p e s).freeCount = s.freeCount := rfl

/-! ### answer -/

@[simp] theorem answer_inReset (r : ResultCode) (c : Byte) (l : List Byte) (s : State) : (answer r c l s).inReset = s.inReset := rfl
@[simp] theorem answer_ownAddr (r : ResultCode) (c : Byte) (l : List Byte) (s : State) : (answer r c l s).ownAddr = s.ownAddr := rfl
@[simp] theorem answer_rate (r : ResultCode) (c : Byte) (l : List Byte) (s : State) : (answer r c l s).rate = s.rate := rfl
@[simp] theorem answer_station (r : ResultCode) (c : Byte) (l : List Byte) (s : State) : (answer r c l s).station = s.station := rfl
@[simp] theorem answer_config (r : ResultCode) (c : Byte) (l : List Byte) (s : State) : (answer r c l s).config = s.config := rfl
@[simp] theorem answer_addrInUse (r : ResultCode) (c : Byte) (l : List Byte) (s : State) : (answer r c l s).addrInUse = s.addrInUse := rfl
@[simp] theorem answer_leaveLimit (r : ResultCode) (c : Byte) (l : List Byte) (s : State) : (answer r c l s).leaveLimit = s.leaveLimit := rfl
@[simp] theorem answer_receiver (r : ResultCode) (c : Byte) (l : List Byte) (s : State) : (answer r c l s).receiver = s.receiver := rfl
@[simp] theorem answer_monitor (r : ResultCode) (c : Byte) (l : List Byte) (s : State) : (answer r c l s).monitor = s.monitor := rfl
@[simp] theorem answer_run (r : ResultCode) (c : Byte) (l : List Byte) (s : State) : (answer r c l s).run = s.run := rfl
@[simp] theorem answer_longMark (r : ResultCode) (c : Byte) (l : List Byte) (s : State) : (answer r c l s).longMark = s.longMark := rfl
@[simp] theorem answer_lastSource (r : ResultCode) (c : Byte) (l : List Byte) (s : State) : (answer r c l s).lastSource = s.lastSource := rfl
@[simp] theorem answer_decoder (r : ResultCode) (c : Byte) (l : List Byte) (s : State) : (answer r c l s).decoder = s.decoder := rfl
@[simp] theorem answer_table (r : ResultCode) (c : Byte) (l : List Byte) (s : State) : (answer r c l s).table = s.table := rfl
@[simp] theorem answer_roster (r : ResultCode) (c : Byte) (l : List Byte) (s : State) : (answer r c l s).roster = s.roster := rfl
@[simp] theorem answer_own (r : ResultCode) (c : Byte) (l : List Byte) (s : State) : (answer r c l s).own = s.own := rfl
@[simp] theorem answer_urgent (r : ResultCode) (c : Byte) (l : List Byte) (s : State) : (answer r c l s).urgent = s.urgent := rfl
@[simp] theorem answer_normal (r : ResultCode) (c : Byte) (l : List Byte) (s : State) : (answer r c l s).normal = s.normal := rfl
@[simp] theorem answer_access (r : ResultCode) (c : Byte) (l : List Byte) (s : State) : (answer r c l s).access = s.access := rfl
@[simp] theorem answer_driveFaults (r : ResultCode) (c : Byte) (l : List Byte) (s : State) : (answer r c l s).driveFaults = s.driveFaults := rfl
@[simp] theorem answer_mailbox (r : ResultCode) (c : Byte) (l : List Byte) (s : State) : (answer r c l s).mailbox = s.mailbox := rfl
@[simp] theorem answer_port (r : ResultCode) (c : Byte) (l : List Byte) (s : State) : (answer r c l s).port = s.port := rfl
@[simp] theorem answer_notices (r : ResultCode) (c : Byte) (l : List Byte) (s : State) : (answer r c l s).notices = s.notices := rfl
@[simp] theorem answer_counters (r : ResultCode) (c : Byte) (l : List Byte) (s : State) : (answer r c l s).counters = s.counters := rfl
@[simp] theorem answer_refused (r : ResultCode) (c : Byte) (l : List Byte) (s : State) : (answer r c l s).refused = s.refused := rfl
@[simp] theorem answer_portError (r : ResultCode) (c : Byte) (l : List Byte) (s : State) : (answer r c l s).portError = s.portError := rfl
@[simp] theorem answer_sdo (r : ResultCode) (c : Byte) (l : List Byte) (s : State) : (answer r c l s).sdo = s.sdo := rfl
@[simp] theorem answer_pending (r : ResultCode) (c : Byte) (l : List Byte) (s : State) : (answer r c l s).pending = s.pending := rfl
@[simp] theorem answer_line (r : ResultCode) (c : Byte) (l : List Byte) (s : State) : (answer r c l s).line = s.line := rfl
@[simp] theorem answer_freeCount (r : ResultCode) (c : Byte) (l : List Byte) (s : State) : (answer r c l s).freeCount = s.freeCount := rfl

/-! ### discard -/

@[simp] theorem discardFrame_inReset (c : Counter) (s : State) : (discardFrame c s).inReset = s.inReset := rfl
@[simp] theorem discardFrame_ownAddr (c : Counter) (s : State) : (discardFrame c s).ownAddr = s.ownAddr := rfl
@[simp] theorem discardFrame_rate (c : Counter) (s : State) : (discardFrame c s).rate = s.rate := rfl
@[simp] theorem discardFrame_station (c : Counter) (s : State) : (discardFrame c s).station = s.station := rfl
@[simp] theorem discardFrame_config (c : Counter) (s : State) : (discardFrame c s).config = s.config := rfl
@[simp] theorem discardFrame_addrInUse (c : Counter) (s : State) : (discardFrame c s).addrInUse = s.addrInUse := rfl
@[simp] theorem discardFrame_leaveLimit (c : Counter) (s : State) : (discardFrame c s).leaveLimit = s.leaveLimit := rfl
@[simp] theorem discardFrame_receiver (c : Counter) (s : State) : (discardFrame c s).receiver = s.receiver := rfl
@[simp] theorem discardFrame_monitor (c : Counter) (s : State) : (discardFrame c s).monitor = s.monitor := rfl
@[simp] theorem discardFrame_run (c : Counter) (s : State) : (discardFrame c s).run = s.run := rfl
@[simp] theorem discardFrame_longMark (c : Counter) (s : State) : (discardFrame c s).longMark = s.longMark := rfl
@[simp] theorem discardFrame_decoder (c : Counter) (s : State) : (discardFrame c s).decoder = s.decoder := rfl
@[simp] theorem discardFrame_table (c : Counter) (s : State) : (discardFrame c s).table = s.table := rfl
@[simp] theorem discardFrame_roster (c : Counter) (s : State) : (discardFrame c s).roster = s.roster := rfl
@[simp] theorem discardFrame_own (c : Counter) (s : State) : (discardFrame c s).own = s.own := rfl
@[simp] theorem discardFrame_urgent (c : Counter) (s : State) : (discardFrame c s).urgent = s.urgent := rfl
@[simp] theorem discardFrame_normal (c : Counter) (s : State) : (discardFrame c s).normal = s.normal := rfl
@[simp] theorem discardFrame_access (c : Counter) (s : State) : (discardFrame c s).access = s.access := rfl
@[simp] theorem discardFrame_driveFaults (c : Counter) (s : State) : (discardFrame c s).driveFaults = s.driveFaults := rfl
@[simp] theorem discardFrame_mailbox (c : Counter) (s : State) : (discardFrame c s).mailbox = s.mailbox := rfl
@[simp] theorem discardFrame_port (c : Counter) (s : State) : (discardFrame c s).port = s.port := rfl
@[simp] theorem discardFrame_result (c : Counter) (s : State) : (discardFrame c s).result = s.result := rfl
@[simp] theorem discardFrame_notices (c : Counter) (s : State) : (discardFrame c s).notices = s.notices := rfl
@[simp] theorem discardFrame_refused (c : Counter) (s : State) : (discardFrame c s).refused = s.refused := rfl
@[simp] theorem discardFrame_portError (c : Counter) (s : State) : (discardFrame c s).portError = s.portError := rfl
@[simp] theorem discardFrame_sdo (c : Counter) (s : State) : (discardFrame c s).sdo = s.sdo := rfl
@[simp] theorem discardFrame_pending (c : Counter) (s : State) : (discardFrame c s).pending = s.pending := rfl
@[simp] theorem discardFrame_line (c : Counter) (s : State) : (discardFrame c s).line = s.line := rfl
@[simp] theorem discardFrame_freeCount (c : Counter) (s : State) : (discardFrame c s).freeCount = s.freeCount := rfl

/-! ### removeHold -/

@[simp] theorem removeHold_inReset (k : Byte) (s : State) : (removeHold k s).inReset = s.inReset := rfl
@[simp] theorem removeHold_ownAddr (k : Byte) (s : State) : (removeHold k s).ownAddr = s.ownAddr := rfl
@[simp] theorem removeHold_rate (k : Byte) (s : State) : (removeHold k s).rate = s.rate := rfl
@[simp] theorem removeHold_station (k : Byte) (s : State) : (removeHold k s).station = s.station := rfl
@[simp] theorem removeHold_config (k : Byte) (s : State) : (removeHold k s).config = s.config := rfl
@[simp] theorem removeHold_addrInUse (k : Byte) (s : State) : (removeHold k s).addrInUse = s.addrInUse := rfl
@[simp] theorem removeHold_leaveLimit (k : Byte) (s : State) : (removeHold k s).leaveLimit = s.leaveLimit := rfl
@[simp] theorem removeHold_receiver (k : Byte) (s : State) : (removeHold k s).receiver = s.receiver := rfl
@[simp] theorem removeHold_monitor (k : Byte) (s : State) : (removeHold k s).monitor = s.monitor := rfl
@[simp] theorem removeHold_run (k : Byte) (s : State) : (removeHold k s).run = s.run := rfl
@[simp] theorem removeHold_longMark (k : Byte) (s : State) : (removeHold k s).longMark = s.longMark := rfl
@[simp] theorem removeHold_lastSource (k : Byte) (s : State) : (removeHold k s).lastSource = s.lastSource := rfl
@[simp] theorem removeHold_decoder (k : Byte) (s : State) : (removeHold k s).decoder = s.decoder := rfl
@[simp] theorem removeHold_table (k : Byte) (s : State) : (removeHold k s).table = s.table := rfl
@[simp] theorem removeHold_roster (k : Byte) (s : State) : (removeHold k s).roster = s.roster := rfl
@[simp] theorem removeHold_own (k : Byte) (s : State) : (removeHold k s).own = s.own := rfl
@[simp] theorem removeHold_normal (k : Byte) (s : State) : (removeHold k s).normal = s.normal := rfl
@[simp] theorem removeHold_access (k : Byte) (s : State) : (removeHold k s).access = s.access := rfl
@[simp] theorem removeHold_driveFaults (k : Byte) (s : State) : (removeHold k s).driveFaults = s.driveFaults := rfl
@[simp] theorem removeHold_mailbox (k : Byte) (s : State) : (removeHold k s).mailbox = s.mailbox := rfl
@[simp] theorem removeHold_port (k : Byte) (s : State) : (removeHold k s).port = s.port := rfl
@[simp] theorem removeHold_result (k : Byte) (s : State) : (removeHold k s).result = s.result := rfl
@[simp] theorem removeHold_notices (k : Byte) (s : State) : (removeHold k s).notices = s.notices := rfl
@[simp] theorem removeHold_counters (k : Byte) (s : State) : (removeHold k s).counters = s.counters := rfl
@[simp] theorem removeHold_refused (k : Byte) (s : State) : (removeHold k s).refused = s.refused := rfl
@[simp] theorem removeHold_portError (k : Byte) (s : State) : (removeHold k s).portError = s.portError := rfl
@[simp] theorem removeHold_sdo (k : Byte) (s : State) : (removeHold k s).sdo = s.sdo := rfl
@[simp] theorem removeHold_pending (k : Byte) (s : State) : (removeHold k s).pending = s.pending := rfl
@[simp] theorem removeHold_line (k : Byte) (s : State) : (removeHold k s).line = s.line := rfl
@[simp] theorem removeHold_freeCount (k : Byte) (s : State) : (removeHold k s).freeCount = s.freeCount := rfl

/-! ### removeAsk -/

@[simp] theorem removeAsk_inReset (k : Byte) (s : State) : (removeAsk k s).inReset = s.inReset := rfl
@[simp] theorem removeAsk_ownAddr (k : Byte) (s : State) : (removeAsk k s).ownAddr = s.ownAddr := rfl
@[simp] theorem removeAsk_rate (k : Byte) (s : State) : (removeAsk k s).rate = s.rate := rfl
@[simp] theorem removeAsk_station (k : Byte) (s : State) : (removeAsk k s).station = s.station := rfl
@[simp] theorem removeAsk_config (k : Byte) (s : State) : (removeAsk k s).config = s.config := rfl
@[simp] theorem removeAsk_addrInUse (k : Byte) (s : State) : (removeAsk k s).addrInUse = s.addrInUse := rfl
@[simp] theorem removeAsk_leaveLimit (k : Byte) (s : State) : (removeAsk k s).leaveLimit = s.leaveLimit := rfl
@[simp] theorem removeAsk_receiver (k : Byte) (s : State) : (removeAsk k s).receiver = s.receiver := rfl
@[simp] theorem removeAsk_monitor (k : Byte) (s : State) : (removeAsk k s).monitor = s.monitor := rfl
@[simp] theorem removeAsk_run (k : Byte) (s : State) : (removeAsk k s).run = s.run := rfl
@[simp] theorem removeAsk_longMark (k : Byte) (s : State) : (removeAsk k s).longMark = s.longMark := rfl
@[simp] theorem removeAsk_lastSource (k : Byte) (s : State) : (removeAsk k s).lastSource = s.lastSource := rfl
@[simp] theorem removeAsk_decoder (k : Byte) (s : State) : (removeAsk k s).decoder = s.decoder := rfl
@[simp] theorem removeAsk_table (k : Byte) (s : State) : (removeAsk k s).table = s.table := rfl
@[simp] theorem removeAsk_roster (k : Byte) (s : State) : (removeAsk k s).roster = s.roster := rfl
@[simp] theorem removeAsk_own (k : Byte) (s : State) : (removeAsk k s).own = s.own := rfl
@[simp] theorem removeAsk_urgent (k : Byte) (s : State) : (removeAsk k s).urgent = s.urgent := rfl
@[simp] theorem removeAsk_access (k : Byte) (s : State) : (removeAsk k s).access = s.access := rfl
@[simp] theorem removeAsk_driveFaults (k : Byte) (s : State) : (removeAsk k s).driveFaults = s.driveFaults := rfl
@[simp] theorem removeAsk_mailbox (k : Byte) (s : State) : (removeAsk k s).mailbox = s.mailbox := rfl
@[simp] theorem removeAsk_port (k : Byte) (s : State) : (removeAsk k s).port = s.port := rfl
@[simp] theorem removeAsk_result (k : Byte) (s : State) : (removeAsk k s).result = s.result := rfl
@[simp] theorem removeAsk_notices (k : Byte) (s : State) : (removeAsk k s).notices = s.notices := rfl
@[simp] theorem removeAsk_counters (k : Byte) (s : State) : (removeAsk k s).counters = s.counters := rfl
@[simp] theorem removeAsk_refused (k : Byte) (s : State) : (removeAsk k s).refused = s.refused := rfl
@[simp] theorem removeAsk_portError (k : Byte) (s : State) : (removeAsk k s).portError = s.portError := rfl
@[simp] theorem removeAsk_sdo (k : Byte) (s : State) : (removeAsk k s).sdo = s.sdo := rfl
@[simp] theorem removeAsk_pending (k : Byte) (s : State) : (removeAsk k s).pending = s.pending := rfl
@[simp] theorem removeAsk_line (k : Byte) (s : State) : (removeAsk k s).line = s.line := rfl
@[simp] theorem removeAsk_freeCount (k : Byte) (s : State) : (removeAsk k s).freeCount = s.freeCount := rfl

/-! ### produce -/

@[simp] theorem produce_inReset (n : Notice) (s : State) : (produce n s).inReset = s.inReset := by
  rw [produce_eq]
@[simp] theorem produce_ownAddr (n : Notice) (s : State) : (produce n s).ownAddr = s.ownAddr := by
  rw [produce_eq]
@[simp] theorem produce_rate (n : Notice) (s : State) : (produce n s).rate = s.rate := by
  rw [produce_eq]
@[simp] theorem produce_station (n : Notice) (s : State) : (produce n s).station = s.station := by
  rw [produce_eq]
@[simp] theorem produce_config (n : Notice) (s : State) : (produce n s).config = s.config := by
  rw [produce_eq]
@[simp] theorem produce_addrInUse (n : Notice) (s : State) : (produce n s).addrInUse = s.addrInUse := by
  rw [produce_eq]
@[simp] theorem produce_leaveLimit (n : Notice) (s : State) : (produce n s).leaveLimit = s.leaveLimit := by
  rw [produce_eq]
@[simp] theorem produce_receiver (n : Notice) (s : State) : (produce n s).receiver = s.receiver := by
  rw [produce_eq]
@[simp] theorem produce_monitor (n : Notice) (s : State) : (produce n s).monitor = s.monitor := by
  rw [produce_eq]
@[simp] theorem produce_run (n : Notice) (s : State) : (produce n s).run = s.run := by
  rw [produce_eq]
@[simp] theorem produce_longMark (n : Notice) (s : State) : (produce n s).longMark = s.longMark := by
  rw [produce_eq]
@[simp] theorem produce_lastSource (n : Notice) (s : State) : (produce n s).lastSource = s.lastSource := by
  rw [produce_eq]
@[simp] theorem produce_decoder (n : Notice) (s : State) : (produce n s).decoder = s.decoder := by
  rw [produce_eq]
@[simp] theorem produce_table (n : Notice) (s : State) : (produce n s).table = s.table := by
  rw [produce_eq]
@[simp] theorem produce_roster (n : Notice) (s : State) : (produce n s).roster = s.roster := by
  rw [produce_eq]
@[simp] theorem produce_own (n : Notice) (s : State) : (produce n s).own = s.own := by
  rw [produce_eq]
@[simp] theorem produce_urgent (n : Notice) (s : State) : (produce n s).urgent = s.urgent := by
  rw [produce_eq]
@[simp] theorem produce_normal (n : Notice) (s : State) : (produce n s).normal = s.normal := by
  rw [produce_eq]
@[simp] theorem produce_access (n : Notice) (s : State) : (produce n s).access = s.access := by
  rw [produce_eq]
@[simp] theorem produce_driveFaults (n : Notice) (s : State) : (produce n s).driveFaults = s.driveFaults := by
  rw [produce_eq]
@[simp] theorem produce_mailbox (n : Notice) (s : State) : (produce n s).mailbox = s.mailbox := by
  rw [produce_eq]
@[simp] theorem produce_port (n : Notice) (s : State) : (produce n s).port = s.port := by
  rw [produce_eq]
@[simp] theorem produce_result (n : Notice) (s : State) : (produce n s).result = s.result := by
  rw [produce_eq]
@[simp] theorem produce_refused (n : Notice) (s : State) : (produce n s).refused = s.refused := by
  rw [produce_eq]
@[simp] theorem produce_portError (n : Notice) (s : State) : (produce n s).portError = s.portError := by
  rw [produce_eq]
@[simp] theorem produce_sdo (n : Notice) (s : State) : (produce n s).sdo = s.sdo := by
  rw [produce_eq]
@[simp] theorem produce_pending (n : Notice) (s : State) : (produce n s).pending = s.pending := by
  rw [produce_eq]
@[simp] theorem produce_line (n : Notice) (s : State) : (produce n s).line = s.line := by
  rw [produce_eq]
@[simp] theorem produce_freeCount (n : Notice) (s : State) : (produce n s).freeCount = s.freeCount := by
  rw [produce_eq]

/-! ### requestState -/

@[simp] theorem requestState_inReset (o : UrgentOrder) (s : State) : (requestState o s).inReset = s.inReset := by
  rw [requestState_eq]
@[simp] theorem requestState_ownAddr (o : UrgentOrder) (s : State) : (requestState o s).ownAddr = s.ownAddr := by
  rw [requestState_eq]
@[simp] theorem requestState_rate (o : UrgentOrder) (s : State) : (requestState o s).rate = s.rate := by
  rw [requestState_eq]
@[simp] theorem requestState_station (o : UrgentOrder) (s : State) : (requestState o s).station = s.station := by
  rw [requestState_eq]
@[simp] theorem requestState_config (o : UrgentOrder) (s : State) : (requestState o s).config = s.config := by
  rw [requestState_eq]
@[simp] theorem requestState_addrInUse (o : UrgentOrder) (s : State) : (requestState o s).addrInUse = s.addrInUse := by
  rw [requestState_eq]
@[simp] theorem requestState_leaveLimit (o : UrgentOrder) (s : State) : (requestState o s).leaveLimit = s.leaveLimit := by
  rw [requestState_eq]
@[simp] theorem requestState_receiver (o : UrgentOrder) (s : State) : (requestState o s).receiver = s.receiver := by
  rw [requestState_eq]
@[simp] theorem requestState_monitor (o : UrgentOrder) (s : State) : (requestState o s).monitor = s.monitor := by
  rw [requestState_eq]
@[simp] theorem requestState_run (o : UrgentOrder) (s : State) : (requestState o s).run = s.run := by
  rw [requestState_eq]
@[simp] theorem requestState_longMark (o : UrgentOrder) (s : State) : (requestState o s).longMark = s.longMark := by
  rw [requestState_eq]
@[simp] theorem requestState_lastSource (o : UrgentOrder) (s : State) : (requestState o s).lastSource = s.lastSource := by
  rw [requestState_eq]
@[simp] theorem requestState_decoder (o : UrgentOrder) (s : State) : (requestState o s).decoder = s.decoder := by
  rw [requestState_eq]
@[simp] theorem requestState_table (o : UrgentOrder) (s : State) : (requestState o s).table = s.table := by
  rw [requestState_eq]
@[simp] theorem requestState_roster (o : UrgentOrder) (s : State) : (requestState o s).roster = s.roster := by
  rw [requestState_eq]
@[simp] theorem requestState_own (o : UrgentOrder) (s : State) : (requestState o s).own = s.own := by
  rw [requestState_eq]
@[simp] theorem requestState_normal (o : UrgentOrder) (s : State) : (requestState o s).normal = s.normal := by
  rw [requestState_eq]
@[simp] theorem requestState_access (o : UrgentOrder) (s : State) : (requestState o s).access = s.access := by
  rw [requestState_eq]
@[simp] theorem requestState_driveFaults (o : UrgentOrder) (s : State) : (requestState o s).driveFaults = s.driveFaults := by
  rw [requestState_eq]
@[simp] theorem requestState_mailbox (o : UrgentOrder) (s : State) : (requestState o s).mailbox = s.mailbox := by
  rw [requestState_eq]
@[simp] theorem requestState_port (o : UrgentOrder) (s : State) : (requestState o s).port = s.port := by
  rw [requestState_eq]
@[simp] theorem requestState_result (o : UrgentOrder) (s : State) : (requestState o s).result = s.result := by
  rw [requestState_eq]
@[simp] theorem requestState_notices (o : UrgentOrder) (s : State) : (requestState o s).notices = s.notices := by
  rw [requestState_eq]
@[simp] theorem requestState_counters (o : UrgentOrder) (s : State) : (requestState o s).counters = s.counters := by
  rw [requestState_eq]
@[simp] theorem requestState_refused (o : UrgentOrder) (s : State) : (requestState o s).refused = s.refused := by
  rw [requestState_eq]
@[simp] theorem requestState_portError (o : UrgentOrder) (s : State) : (requestState o s).portError = s.portError := by
  rw [requestState_eq]
@[simp] theorem requestState_sdo (o : UrgentOrder) (s : State) : (requestState o s).sdo = s.sdo := by
  rw [requestState_eq]
@[simp] theorem requestState_pending (o : UrgentOrder) (s : State) : (requestState o s).pending = s.pending := by
  rw [requestState_eq]
@[simp] theorem requestState_line (o : UrgentOrder) (s : State) : (requestState o s).line = s.line := by
  rw [requestState_eq]
@[simp] theorem requestState_freeCount (o : UrgentOrder) (s : State) : (requestState o s).freeCount = s.freeCount := by
  rw [requestState_eq]

/-! ### requestObject -/

@[simp] theorem requestObject_inReset (k : Byte) (s : State) : (requestObject k s).inReset = s.inReset := by
  rw [requestObject_eq]
@[simp] theorem requestObject_ownAddr (k : Byte) (s : State) : (requestObject k s).ownAddr = s.ownAddr := by
  rw [requestObject_eq]
@[simp] theorem requestObject_rate (k : Byte) (s : State) : (requestObject k s).rate = s.rate := by
  rw [requestObject_eq]
@[simp] theorem requestObject_station (k : Byte) (s : State) : (requestObject k s).station = s.station := by
  rw [requestObject_eq]
@[simp] theorem requestObject_config (k : Byte) (s : State) : (requestObject k s).config = s.config := by
  rw [requestObject_eq]
@[simp] theorem requestObject_addrInUse (k : Byte) (s : State) : (requestObject k s).addrInUse = s.addrInUse := by
  rw [requestObject_eq]
@[simp] theorem requestObject_leaveLimit (k : Byte) (s : State) : (requestObject k s).leaveLimit = s.leaveLimit := by
  rw [requestObject_eq]
@[simp] theorem requestObject_receiver (k : Byte) (s : State) : (requestObject k s).receiver = s.receiver := by
  rw [requestObject_eq]
@[simp] theorem requestObject_monitor (k : Byte) (s : State) : (requestObject k s).monitor = s.monitor := by
  rw [requestObject_eq]
@[simp] theorem requestObject_run (k : Byte) (s : State) : (requestObject k s).run = s.run := by
  rw [requestObject_eq]
@[simp] theorem requestObject_longMark (k : Byte) (s : State) : (requestObject k s).longMark = s.longMark := by
  rw [requestObject_eq]
@[simp] theorem requestObject_lastSource (k : Byte) (s : State) : (requestObject k s).lastSource = s.lastSource := by
  rw [requestObject_eq]
@[simp] theorem requestObject_decoder (k : Byte) (s : State) : (requestObject k s).decoder = s.decoder := by
  rw [requestObject_eq]
@[simp] theorem requestObject_table (k : Byte) (s : State) : (requestObject k s).table = s.table := by
  rw [requestObject_eq]
@[simp] theorem requestObject_roster (k : Byte) (s : State) : (requestObject k s).roster = s.roster := by
  rw [requestObject_eq]
@[simp] theorem requestObject_own (k : Byte) (s : State) : (requestObject k s).own = s.own := by
  rw [requestObject_eq]
@[simp] theorem requestObject_normal (k : Byte) (s : State) : (requestObject k s).normal = s.normal := by
  rw [requestObject_eq]
@[simp] theorem requestObject_access (k : Byte) (s : State) : (requestObject k s).access = s.access := by
  rw [requestObject_eq]
@[simp] theorem requestObject_driveFaults (k : Byte) (s : State) : (requestObject k s).driveFaults = s.driveFaults := by
  rw [requestObject_eq]
@[simp] theorem requestObject_mailbox (k : Byte) (s : State) : (requestObject k s).mailbox = s.mailbox := by
  rw [requestObject_eq]
@[simp] theorem requestObject_port (k : Byte) (s : State) : (requestObject k s).port = s.port := by
  rw [requestObject_eq]
@[simp] theorem requestObject_result (k : Byte) (s : State) : (requestObject k s).result = s.result := by
  rw [requestObject_eq]
@[simp] theorem requestObject_notices (k : Byte) (s : State) : (requestObject k s).notices = s.notices := by
  rw [requestObject_eq]
@[simp] theorem requestObject_counters (k : Byte) (s : State) : (requestObject k s).counters = s.counters := by
  rw [requestObject_eq]
@[simp] theorem requestObject_refused (k : Byte) (s : State) : (requestObject k s).refused = s.refused := by
  rw [requestObject_eq]
@[simp] theorem requestObject_portError (k : Byte) (s : State) : (requestObject k s).portError = s.portError := by
  rw [requestObject_eq]
@[simp] theorem requestObject_sdo (k : Byte) (s : State) : (requestObject k s).sdo = s.sdo := by
  rw [requestObject_eq]
@[simp] theorem requestObject_pending (k : Byte) (s : State) : (requestObject k s).pending = s.pending := by
  rw [requestObject_eq]
@[simp] theorem requestObject_line (k : Byte) (s : State) : (requestObject k s).line = s.line := by
  rw [requestObject_eq]
@[simp] theorem requestObject_freeCount (k : Byte) (s : State) : (requestObject k s).freeCount = s.freeCount := by
  rw [requestObject_eq]

/-! ### requestPresence -/

@[simp] theorem requestPresence_inReset (s : State) : (requestPresence s).inReset = s.inReset := by
  rw [requestPresence_eq]
@[simp] theorem requestPresence_ownAddr (s : State) : (requestPresence s).ownAddr = s.ownAddr := by
  rw [requestPresence_eq]
@[simp] theorem requestPresence_rate (s : State) : (requestPresence s).rate = s.rate := by
  rw [requestPresence_eq]
@[simp] theorem requestPresence_station (s : State) : (requestPresence s).station = s.station := by
  rw [requestPresence_eq]
@[simp] theorem requestPresence_config (s : State) : (requestPresence s).config = s.config := by
  rw [requestPresence_eq]
@[simp] theorem requestPresence_addrInUse (s : State) : (requestPresence s).addrInUse = s.addrInUse := by
  rw [requestPresence_eq]
@[simp] theorem requestPresence_leaveLimit (s : State) : (requestPresence s).leaveLimit = s.leaveLimit := by
  rw [requestPresence_eq]
@[simp] theorem requestPresence_receiver (s : State) : (requestPresence s).receiver = s.receiver := by
  rw [requestPresence_eq]
@[simp] theorem requestPresence_monitor (s : State) : (requestPresence s).monitor = s.monitor := by
  rw [requestPresence_eq]
@[simp] theorem requestPresence_run (s : State) : (requestPresence s).run = s.run := by
  rw [requestPresence_eq]
@[simp] theorem requestPresence_longMark (s : State) : (requestPresence s).longMark = s.longMark := by
  rw [requestPresence_eq]
@[simp] theorem requestPresence_lastSource (s : State) : (requestPresence s).lastSource = s.lastSource := by
  rw [requestPresence_eq]
@[simp] theorem requestPresence_decoder (s : State) : (requestPresence s).decoder = s.decoder := by
  rw [requestPresence_eq]
@[simp] theorem requestPresence_table (s : State) : (requestPresence s).table = s.table := by
  rw [requestPresence_eq]
@[simp] theorem requestPresence_roster (s : State) : (requestPresence s).roster = s.roster := by
  rw [requestPresence_eq]
@[simp] theorem requestPresence_own (s : State) : (requestPresence s).own = s.own := by
  rw [requestPresence_eq]
@[simp] theorem requestPresence_urgent (s : State) : (requestPresence s).urgent = s.urgent := by
  rw [requestPresence_eq]
@[simp] theorem requestPresence_access (s : State) : (requestPresence s).access = s.access := by
  rw [requestPresence_eq]
@[simp] theorem requestPresence_driveFaults (s : State) : (requestPresence s).driveFaults = s.driveFaults := by
  rw [requestPresence_eq]
@[simp] theorem requestPresence_mailbox (s : State) : (requestPresence s).mailbox = s.mailbox := by
  rw [requestPresence_eq]
@[simp] theorem requestPresence_port (s : State) : (requestPresence s).port = s.port := by
  rw [requestPresence_eq]
@[simp] theorem requestPresence_result (s : State) : (requestPresence s).result = s.result := by
  rw [requestPresence_eq]
@[simp] theorem requestPresence_notices (s : State) : (requestPresence s).notices = s.notices := by
  rw [requestPresence_eq]
@[simp] theorem requestPresence_counters (s : State) : (requestPresence s).counters = s.counters := by
  rw [requestPresence_eq]
@[simp] theorem requestPresence_refused (s : State) : (requestPresence s).refused = s.refused := by
  rw [requestPresence_eq]
@[simp] theorem requestPresence_portError (s : State) : (requestPresence s).portError = s.portError := by
  rw [requestPresence_eq]
@[simp] theorem requestPresence_sdo (s : State) : (requestPresence s).sdo = s.sdo := by
  rw [requestPresence_eq]
@[simp] theorem requestPresence_pending (s : State) : (requestPresence s).pending = s.pending := by
  rw [requestPresence_eq]
@[simp] theorem requestPresence_line (s : State) : (requestPresence s).line = s.line := by
  rw [requestPresence_eq]
@[simp] theorem requestPresence_freeCount (s : State) : (requestPresence s).freeCount = s.freeCount := by
  rw [requestPresence_eq]

/-! ### requestLeaving -/

@[simp] theorem requestLeaving_inReset (s : State) : (requestLeaving s).inReset = s.inReset := by
  rw [requestLeaving_eq]
@[simp] theorem requestLeaving_ownAddr (s : State) : (requestLeaving s).ownAddr = s.ownAddr := by
  rw [requestLeaving_eq]
@[simp] theorem requestLeaving_rate (s : State) : (requestLeaving s).rate = s.rate := by
  rw [requestLeaving_eq]
@[simp] theorem requestLeaving_station (s : State) : (requestLeaving s).station = s.station := by
  rw [requestLeaving_eq]
@[simp] theorem requestLeaving_config (s : State) : (requestLeaving s).config = s.config := by
  rw [requestLeaving_eq]
@[simp] theorem requestLeaving_addrInUse (s : State) : (requestLeaving s).addrInUse = s.addrInUse := by
  rw [requestLeaving_eq]
@[simp] theorem requestLeaving_leaveLimit (s : State) : (requestLeaving s).leaveLimit = s.leaveLimit := by
  rw [requestLeaving_eq]
@[simp] theorem requestLeaving_receiver (s : State) : (requestLeaving s).receiver = s.receiver := by
  rw [requestLeaving_eq]
@[simp] theorem requestLeaving_monitor (s : State) : (requestLeaving s).monitor = s.monitor := by
  rw [requestLeaving_eq]
@[simp] theorem requestLeaving_run (s : State) : (requestLeaving s).run = s.run := by
  rw [requestLeaving_eq]
@[simp] theorem requestLeaving_longMark (s : State) : (requestLeaving s).longMark = s.longMark := by
  rw [requestLeaving_eq]
@[simp] theorem requestLeaving_lastSource (s : State) : (requestLeaving s).lastSource = s.lastSource := by
  rw [requestLeaving_eq]
@[simp] theorem requestLeaving_decoder (s : State) : (requestLeaving s).decoder = s.decoder := by
  rw [requestLeaving_eq]
@[simp] theorem requestLeaving_table (s : State) : (requestLeaving s).table = s.table := by
  rw [requestLeaving_eq]
@[simp] theorem requestLeaving_roster (s : State) : (requestLeaving s).roster = s.roster := by
  rw [requestLeaving_eq]
@[simp] theorem requestLeaving_own (s : State) : (requestLeaving s).own = s.own := by
  rw [requestLeaving_eq]
@[simp] theorem requestLeaving_urgent (s : State) : (requestLeaving s).urgent = s.urgent := by
  rw [requestLeaving_eq]
@[simp] theorem requestLeaving_access (s : State) : (requestLeaving s).access = s.access := by
  rw [requestLeaving_eq]
@[simp] theorem requestLeaving_driveFaults (s : State) : (requestLeaving s).driveFaults = s.driveFaults := by
  rw [requestLeaving_eq]
@[simp] theorem requestLeaving_mailbox (s : State) : (requestLeaving s).mailbox = s.mailbox := by
  rw [requestLeaving_eq]
@[simp] theorem requestLeaving_port (s : State) : (requestLeaving s).port = s.port := by
  rw [requestLeaving_eq]
@[simp] theorem requestLeaving_result (s : State) : (requestLeaving s).result = s.result := by
  rw [requestLeaving_eq]
@[simp] theorem requestLeaving_notices (s : State) : (requestLeaving s).notices = s.notices := by
  rw [requestLeaving_eq]
@[simp] theorem requestLeaving_counters (s : State) : (requestLeaving s).counters = s.counters := by
  rw [requestLeaving_eq]
@[simp] theorem requestLeaving_refused (s : State) : (requestLeaving s).refused = s.refused := by
  rw [requestLeaving_eq]
@[simp] theorem requestLeaving_portError (s : State) : (requestLeaving s).portError = s.portError := by
  rw [requestLeaving_eq]
@[simp] theorem requestLeaving_sdo (s : State) : (requestLeaving s).sdo = s.sdo := by
  rw [requestLeaving_eq]
@[simp] theorem requestLeaving_pending (s : State) : (requestLeaving s).pending = s.pending := by
  rw [requestLeaving_eq]
@[simp] theorem requestLeaving_line (s : State) : (requestLeaving s).line = s.line := by
  rw [requestLeaving_eq]
@[simp] theorem requestLeaving_freeCount (s : State) : (requestLeaving s).freeCount = s.freeCount := by
  rw [requestLeaving_eq]

/-! ### refreshAccess -/

@[simp] theorem refreshAccess_inReset (s : State) : (refreshAccess s).inReset = s.inReset := by
  rw [refreshAccess_eq]
@[simp] theorem refreshAccess_ownAddr (s : State) : (refreshAccess s).ownAddr = s.ownAddr := by
  rw [refreshAccess_eq]
@[simp] theorem refreshAccess_rate (s : State) : (refreshAccess s).rate = s.rate := by
  rw [refreshAccess_eq]
@[simp] theorem refreshAccess_station (s : State) : (refreshAccess s).station = s.station := by
  rw [refreshAccess_eq]
@[simp] theorem refreshAccess_config (s : State) : (refreshAccess s).config = s.config := by
  rw [refreshAccess_eq]
@[simp] theorem refreshAccess_addrInUse (s : State) : (refreshAccess s).addrInUse = s.addrInUse := by
  rw [refreshAccess_eq]
@[simp] theorem refreshAccess_leaveLimit (s : State) : (refreshAccess s).leaveLimit = s.leaveLimit := by
  rw [refreshAccess_eq]
@[simp] theorem refreshAccess_receiver (s : State) : (refreshAccess s).receiver = s.receiver := by
  rw [refreshAccess_eq]
@[simp] theorem refreshAccess_monitor (s : State) : (refreshAccess s).monitor = s.monitor := by
  rw [refreshAccess_eq]
@[simp] theorem refreshAccess_run (s : State) : (refreshAccess s).run = s.run := by
  rw [refreshAccess_eq]
@[simp] theorem refreshAccess_longMark (s : State) : (refreshAccess s).longMark = s.longMark := by
  rw [refreshAccess_eq]
@[simp] theorem refreshAccess_lastSource (s : State) : (refreshAccess s).lastSource = s.lastSource := by
  rw [refreshAccess_eq]
@[simp] theorem refreshAccess_decoder (s : State) : (refreshAccess s).decoder = s.decoder := by
  rw [refreshAccess_eq]
@[simp] theorem refreshAccess_table (s : State) : (refreshAccess s).table = s.table := by
  rw [refreshAccess_eq]
@[simp] theorem refreshAccess_roster (s : State) : (refreshAccess s).roster = s.roster := by
  rw [refreshAccess_eq]
@[simp] theorem refreshAccess_own (s : State) : (refreshAccess s).own = s.own := by
  rw [refreshAccess_eq]
@[simp] theorem refreshAccess_urgent (s : State) : (refreshAccess s).urgent = s.urgent := by
  rw [refreshAccess_eq]
@[simp] theorem refreshAccess_normal (s : State) : (refreshAccess s).normal = s.normal := by
  rw [refreshAccess_eq]
@[simp] theorem refreshAccess_driveFaults (s : State) : (refreshAccess s).driveFaults = s.driveFaults := by
  rw [refreshAccess_eq]
@[simp] theorem refreshAccess_mailbox (s : State) : (refreshAccess s).mailbox = s.mailbox := by
  rw [refreshAccess_eq]
@[simp] theorem refreshAccess_port (s : State) : (refreshAccess s).port = s.port := by
  rw [refreshAccess_eq]
@[simp] theorem refreshAccess_result (s : State) : (refreshAccess s).result = s.result := by
  rw [refreshAccess_eq]
@[simp] theorem refreshAccess_notices (s : State) : (refreshAccess s).notices = s.notices := by
  rw [refreshAccess_eq]
@[simp] theorem refreshAccess_counters (s : State) : (refreshAccess s).counters = s.counters := by
  rw [refreshAccess_eq]
@[simp] theorem refreshAccess_refused (s : State) : (refreshAccess s).refused = s.refused := by
  rw [refreshAccess_eq]
@[simp] theorem refreshAccess_portError (s : State) : (refreshAccess s).portError = s.portError := by
  rw [refreshAccess_eq]
@[simp] theorem refreshAccess_sdo (s : State) : (refreshAccess s).sdo = s.sdo := by
  rw [refreshAccess_eq]
@[simp] theorem refreshAccess_pending (s : State) : (refreshAccess s).pending = s.pending := by
  rw [refreshAccess_eq]
@[simp] theorem refreshAccess_line (s : State) : (refreshAccess s).line = s.line := by
  rw [refreshAccess_eq]
@[simp] theorem refreshAccess_freeCount (s : State) : (refreshAccess s).freeCount = s.freeCount := by
  rw [refreshAccess_eq]

end Sys2Proof.Machine
end

