-- ==== Sys2Proof/Laws/Table.lean ====
section
/-! SUPPORT. The Claim Table as a list: finding, changing, allocating and vacating an entry, and the order in
which rules over many entries take the keys. -/

namespace Sys2Proof.Machine

/-! ### Finding an entry -/

/-- The entry found for a key carries it. -/
theorem findEntry_key {k : Byte} {t : List (Option Entry)} {e : Entry} (h : findEntry k t = some e) :
    e.key = k := by
  induction t with
  | nil => simp [findEntry] at h
  | cons x t ih =>
    cases x with
    | none => exact ih (by simpa [findEntry] using h)
    | some y =>
      by_cases hk : y.key = k
      · simp [findEntry, hk] at h; subst h; exact hk
      · exact ih (by simpa [findEntry, hk] using h)

/-- The entry found for a key stands in the table. -/
theorem findEntry_mem {k : Byte} {t : List (Option Entry)} {e : Entry} (h : findEntry k t = some e) :
    some e ∈ t := by
  induction t with
  | nil => simp [findEntry] at h
  | cons x t ih =>
    cases x with
    | none => exact List.mem_cons_of_mem _ (ih (by simpa [findEntry] using h))
    | some y =>
      by_cases hk : y.key = k
      · simp [findEntry, hk] at h; subst h; exact List.mem_cons_self
      · exact List.mem_cons_of_mem _ (ih (by simpa [findEntry, hk] using h))

/-- A key is found exactly when some entry carries it. -/
theorem findEntry_isSome (k : Byte) (t : List (Option Entry)) :
    (findEntry k t).isSome = true ↔ k ∈ tableKeys t := by
  induction t with
  | nil => simp [findEntry, tableKeys]
  | cons x t ih =>
    cases x with
    | none => simpa [findEntry, tableKeys] using ih
    | some y =>
      by_cases hk : y.key = k
      · simp [findEntry, tableKeys, hk]
      · simp [findEntry, tableKeys, hk, ih, Ne.symm hk]

/-- The keys of a table are those of its entries. -/
theorem mem_tableKeys (k : Byte) (t : List (Option Entry)) :
    k ∈ tableKeys t ↔ ∃ e, some e ∈ t ∧ e.key = k := by
  induction t with
  | nil => simp [tableKeys]
  | cons x t ih =>
    cases x with
    | none => simp [tableKeys, ih]
    | some y =>
      simp only [tableKeys, List.mem_cons, ih, Option.some.injEq]
      constructor
      · rintro (rfl | ⟨e, he, hk⟩)
        · exact ⟨y, Or.inl rfl, rfl⟩
        · exact ⟨e, Or.inr he, hk⟩
      · rintro ⟨e, rfl | he, hk⟩
        · exact Or.inl hk.symm
        · exact Or.inr ⟨e, he, hk⟩

/-- A table without the key finds nothing for it. -/
theorem findEntry_none_of_absent {k : Byte} {t : List (Option Entry)}
    (h : ∀ e, some e ∈ t → e.key ≠ k) : findEntry k t = none := by
  cases hf : findEntry k t with
  | none => rfl
  | some e => exact absurd (findEntry_key hf) (h e (findEntry_mem hf))

/-! ### An entry at its number -/

/-- Finding at a number: nothing earlier carries the key. -/
theorem findEntry_at {t : List (Option Entry)} {n : Nat} {e : Entry} (h : t[n]? = some (some e))
    (first : ∀ m f, t[m]? = some (some f) → f.key = e.key → m = n) :
    findEntry e.key t = some e ∧ findNumber e.key t = some n := by
  induction t generalizing n with
  | nil => simp at h
  | cons x t ih =>
    cases n with
    | zero =>
      simp at h; subst h
      simp [findEntry, findNumber]
    | succ n =>
      have hx : ∀ f, x = some f → f.key ≠ e.key := fun f hf hk => by
        have := first 0 f (by simp [hf]) hk; omega
      have hrec := ih (n := n) (by simpa using h) (fun m f hm hk => by
        have := first (m + 1) f (by simpa using hm) hk; omega)
      cases x with
      | none => simp [findEntry, findNumber, hrec.1, hrec.2]
      | some f => simp [findEntry, findNumber, hx f rfl, hrec.1, hrec.2]

/-- In a table without a key twice, an entry stands where it is found. -/
theorem State.EntryAt.of_nodup {s : State} {n : Nat} {e : Entry} (h : (tableKeys s.table).Nodup)
    (hn : s.table[n]? = some (some e)) : s.EntryAt n e := by
  refine ⟨hn, fun m f hm hk => ?_⟩
  generalize s.table = t at h hn hm
  induction t generalizing n m with
  | nil => simp at hn
  | cons x t ih =>
    have mem : ∀ {i : Nat} {g : Entry}, t[i]? = some (some g) → g.key ∈ tableKeys t := fun hg =>
      (mem_tableKeys _ _).mpr ⟨_, List.mem_of_getElem? hg, rfl⟩
    cases n with
    | zero =>
      cases m with
      | zero => rfl
      | succ m =>
        obtain rfl : x = some e := by simpa using hn
        exact absurd (hk ▸ mem (by simpa using hm)) (List.nodup_cons.mp h).1
    | succ n =>
      cases m with
      | zero =>
        obtain rfl : x = some f := by simpa using hm
        exact absurd (hk ▸ mem (by simpa using hn)) (List.nodup_cons.mp h).1
      | succ m =>
        have h' : (tableKeys t).Nodup := by
          cases x with
          | none => exact h
          | some y => exact (List.nodup_cons.mp h).2
        rw [ih (n := n) (m := m) h' (by simpa using hn) (by simpa using hm)]

/-- The entry at its number is the one found for its key (R1). -/
theorem State.EntryAt.entry {s : State} {n : Nat} {e : Entry} (h : s.EntryAt n e) :
    s.entry e.key = some e := (findEntry_at h.1 h.2).1

/-- The number found for the key is the entry's (R1). -/
theorem State.EntryAt.number {s : State} {n : Nat} {e : Entry} (h : s.EntryAt n e) :
    findNumber e.key s.table = some n := (findEntry_at h.1 h.2).2

/-- Changing the entry of a key changes the one place that carries it. -/
theorem modifyEntry_at {t : List (Option Entry)} {n : Nat} {e : Entry} (f : Entry → Entry)
    (h : t[n]? = some (some e))
    (first : ∀ m g, t[m]? = some (some g) → g.key = e.key → m = n) :
    modifyEntry e.key f t = t.set n (some (f e)) := by
  induction t generalizing n with
  | nil => simp at h
  | cons x t ih =>
    cases n with
    | zero =>
      simp at h; subst h
      have hrest : ∀ g, some g ∈ t → g.key ≠ e.key := fun g hg hk => by
        obtain ⟨m, hm⟩ := List.getElem?_of_mem hg
        have := first (m + 1) g (by simpa using hm) hk; omega
      simp only [modifyEntry, List.map_cons, Option.map_some, if_true, List.set_cons_zero]
      refine congrArg _ ((List.map_congr_left fun y hy => ?_).trans (List.map_id t))
      cases y with
      | none => rfl
      | some g => simp [hrest g hy]
    | succ n =>
      have hx : ∀ g, x = some g → g.key ≠ e.key := fun g hg hk => by
        have := first 0 g (by simp [hg]) hk; omega
      have hrec := ih (n := n) (by simpa using h) (fun m g hm hk => by
        have := first (m + 1) g (by simpa using hm) hk; omega)
      simp only [modifyEntry, List.map_cons, List.set_cons_succ] at hrec ⊢
      rw [hrec]
      cases x with
      | none => rfl
      | some g => simp [hx g rfl]

/-- Changing the entry at its number (R1). -/
theorem setEntry_at {s : State} {n : Nat} {e : Entry} (h : s.EntryAt n e) (f : Entry → Entry) :
    setEntry e.key f s = s.putEntry n (f e) := by
  simp only [setEntry, State.putEntry, modifyEntry_at f h.1 h.2]

/-- An entry put in the place of one with its key stands there, and no other entry carries the key. -/
theorem State.EntryAt.put {s : State} {n : Nat} {e : Entry} (h : s.EntryAt n e) (e' : Entry)
    (hk : e'.key = e.key) : (s.putEntry n e').EntryAt n e' := by
  have hn : n < s.table.length := by
    have := h.1; rw [List.getElem?_eq_some_iff] at this; exact this.1
  refine ⟨by simp [State.putEntry, hn], fun m f hm hf => ?_⟩
  by_cases hmn : m = n
  · exact hmn
  · exact h.2 m f (by simpa [State.putEntry, List.getElem?_set, Ne.symm hmn] using hm) (hf.trans hk)

/-! ### Changing an entry -/

/-- The place of an entry changed by `modifyEntry`. -/
theorem findEntry_modify (j k : Byte) (f : Entry → Entry) (hf : ∀ e, (f e).key = e.key)
    (t : List (Option Entry)) :
    findEntry j (modifyEntry k f t) = (findEntry j t).map fun e => if j = k then f e else e := by
  induction t with
  | nil => simp [findEntry, modifyEntry]
  | cons x t ih =>
    cases x with
    | none => simpa [findEntry, modifyEntry] using ih
    | some y =>
      simp only [modifyEntry, List.map_cons, Option.map_some] at ih ⊢
      by_cases hk : y.key = k
      · by_cases hj : y.key = j
        · simp [findEntry, ← hk, ← hj, hf]
        · simp [findEntry, hk, hf, hk ▸ hj, ih]
      · by_cases hj : y.key = j
        · simp [findEntry, hk, ← hj]
        · simp [findEntry, hk, hj, ih]

/-- The entry of any key after one key's entry has moved to a state. -/
theorem entry_setClaim (j k : Byte) (c : Claim) (s : State) :
    (setClaim k c s).entry j = (s.entry j).map fun e => if j = k then { e with claim := c } else e :=
  findEntry_modify j k (fun e => { e with claim := c }) (fun _ => rfl) s.table

/-- The entry of any key after one key's entry has moved to a state with a generation. -/
theorem entry_setClaimGen (j k : Byte) (c : Claim) (g : Byte) (s : State) :
    (setClaimGen k c g s).entry j =
      (s.entry j).map fun e => if j = k then { e with claim := c, gen := g } else e :=
  findEntry_modify j k (fun e => { e with claim := c, gen := g }) (fun _ => rfl) s.table

/-- The entry of any key after one key's want has been set. -/
theorem entry_setWant (j k : Byte) (w : Want) (s : State) :
    (setWant k w s).entry j = (s.entry j).map fun e => if j = k then { e with want := w } else e :=
  findEntry_modify j k (fun e => { e with want := w }) (fun _ => rfl) s.table

/-- Changing an entry keeps the keys and their places. -/
theorem tableKeys_modify (k : Byte) (f : Entry → Entry) (hf : ∀ e, (f e).key = e.key)
    (t : List (Option Entry)) : tableKeys (modifyEntry k f t) = tableKeys t := by
  induction t with
  | nil => rfl
  | cons x t ih =>
    cases x with
    | none => simpa [tableKeys, modifyEntry] using ih
    | some y =>
      simp only [modifyEntry, List.map_cons, Option.map_some, tableKeys] at ih ⊢
      by_cases hk : y.key = k
      · simp [hk, hf, ih]
      · simp [hk, ih]

/-- Changing an entry keeps the number of places. -/
@[simp] theorem length_modify (k : Byte) (f : Entry → Entry) (t : List (Option Entry)) :
    (modifyEntry k f t).length = t.length := by simp [modifyEntry]

/-- Vacating an entry keeps the number of places. -/
@[simp] theorem length_vacate (k : Byte) (t : List (Option Entry)) :
    (vacateEntry k t).length = t.length := by simp [vacateEntry]

/-- An entry of a changed table is the changed one, or one that stood there before. -/
theorem mem_modify {k : Byte} {f : Entry → Entry} {t : List (Option Entry)} {e : Entry}
    (h : some e ∈ modifyEntry k f t) :
    ∃ d, some d ∈ t ∧ (if d.key = k then f d else d) = e := by
  simp only [modifyEntry, List.mem_map] at h
  obtain ⟨x, hx, he⟩ := h
  cases x with
  | none => simp at he
  | some d => exact ⟨d, hx, by simpa using he⟩

/-! ### Allocating -/

/-- An allocation takes the lowest-numbered VACANT place (R11). -/
theorem allocate_at (e : Entry) (pre post : List (Option Entry))
    (full : ∀ x ∈ pre, x.isSome = true) :
    allocate e (pre ++ none :: post) = some (pre ++ some e :: post) := by
  induction pre with
  | nil => rfl
  | cons x pre ih =>
    cases x with
    | none => simp at full
    | some y =>
      have := ih fun z hz => full z (List.mem_cons_of_mem _ hz)
      simp [allocate, this]

/-- An allocation fails exactly when every place is taken (R11). -/
theorem allocate_none (e : Entry) (t : List (Option Entry)) :
    allocate e t = none ↔ ∀ x ∈ t, x.isSome = true := by
  induction t with
  | nil => simp [allocate]
  | cons x t ih =>
    cases x with
    | none => simp [allocate]
    | some y => simp [allocate, ih]

/-- What an allocation can do: the places split at the lowest VACANT one. -/
theorem allocate_some {e : Entry} {t u : List (Option Entry)} (h : allocate e t = some u) :
    ∃ pre post, t = pre ++ none :: post ∧ u = pre ++ some e :: post ∧ ∀ x ∈ pre, x.isSome = true := by
  induction t generalizing u with
  | nil => simp [allocate] at h
  | cons x t ih =>
    cases x with
    | none => exact ⟨[], t, rfl, by simpa [allocate] using h.symm, by simp⟩
    | some y =>
      simp only [allocate, Option.map_eq_some_iff] at h
      obtain ⟨v, hv, rfl⟩ := h
      obtain ⟨pre, post, rfl, rfl, hp⟩ := ih hv
      exact ⟨some y :: pre, post, rfl, rfl, by
        intro z hz
        rcases List.mem_cons.mp hz with rfl | hz
        · rfl
        · exact hp z hz⟩

/-! ### The order of keys -/

/-- A key inserted is one of the keys. -/
theorem mem_insertKey (j k : Byte) (l : List Byte) : j ∈ insertKey k l ↔ j = k ∨ j ∈ l := by
  induction l with
  | nil => simp [insertKey]
  | cons x l ih =>
    simp only [insertKey]
    split
    · simp
    · simp [ih, or_left_comm]

/-- Sorting keeps the keys. -/
theorem mem_sortKeys (j : Byte) (l : List Byte) : j ∈ sortKeys l ↔ j ∈ l := by
  induction l with
  | nil => simp [sortKeys]
  | cons x l ih => simp [sortKeys, mem_insertKey, ih]

/-- The keys in ascending order are the keys of the entries. -/
theorem mem_keysAscending (k : Byte) (s : State) : k ∈ s.keysAscending ↔ (s.entry k).isSome = true := by
  rw [State.keysAscending, mem_sortKeys, State.entry, findEntry_isSome]

/-- An inserted key keeps the order. -/
theorem sorted_insertKey (k : Byte) (l : List Byte) (h : l.Pairwise fun a b => a.toNat ≤ b.toNat) :
    (insertKey k l).Pairwise fun a b => a.toNat ≤ b.toNat := by
  induction l with
  | nil => simp [insertKey]
  | cons x l ih =>
    simp only [insertKey]
    rw [List.pairwise_cons] at h
    split
    · rename_i hk
      rw [List.pairwise_cons]
      refine ⟨fun y hy => ?_, List.pairwise_cons.mpr h⟩
      rcases List.mem_cons.mp hy with rfl | hy
      · exact hk
      · exact le_trans hk (h.1 y hy)
    · rename_i hk
      rw [List.pairwise_cons]
      refine ⟨fun y hy => ?_, ih h.2⟩
      rcases (mem_insertKey y k l).mp hy with rfl | hy
      · omega
      · exact h.1 y hy

/-- The keys are taken in ascending order (R48, R50, R54, R134, R151, R154). -/
theorem sorted_keysAscending (s : State) :
    s.keysAscending.Pairwise fun a b => a.toNat ≤ b.toNat := by
  rw [State.keysAscending]
  induction tableKeys s.table with
  | nil => simp [sortKeys]
  | cons k l ih => exact sorted_insertKey k _ ih

end Sys2Proof.Machine
end

