-- ==== Sys2Proof/Laws/Ops.lean ====
section
/-! SUPPORT. One lemma for each shared operation, saying everything it can do: steps, the Access Engine's
condition, notices, the lanes, free orders, the port. -/

namespace Sys2Proof.Machine

/-! ### Steps -/

/-- A row taken with RESET_N high. -/
theorem live_eq {f : State → State} {s : State} (h : s.inReset = false) :
    live f s = .next (refreshAccess (f s)) := by simp [live, settled, h]

/-- A row while RESET_N is low changes nothing (R146). -/
theorem live_held {f : State → State} {s : State} (h : s.inReset = true) : live f s = .next s := by
  simp [live, h]

/-! ### The Access Engine's condition -/

/-- Where the condition follows the lanes, nothing is left to follow (R128). -/
theorem State.AccessFollows.refresh {s : State} (h : s.AccessFollows) : refreshAccess s = s := by
  obtain ⟨he, hw⟩ := h
  simp only [refreshAccess]
  split
  · rename_i ha; simp [he ha]
  · rename_i ha; simp [hw (Or.inl ha)]
  · rename_i ha; simp [hw (Or.inr ha)]
  · rfl

/-- The condition depends on the access state and the lanes alone. -/
theorem State.AccessFollows.congr {s t : State} (h : s.AccessFollows) (ha : t.access = s.access)
    (hu : t.urgent = s.urgent) (hn : t.normal = s.normal) : t.AccessFollows := by
  simpa [State.AccessFollows, State.noOrders, ha, hu, hn] using h

/-- A state with the lanes and the access state of one that follows is left as it is. -/
theorem State.AccessFollows.refresh_eq {s t : State} (h : s.AccessFollows) (ha : t.access = s.access)
    (hu : t.urgent = s.urgent) (hn : t.normal = s.normal) : refreshAccess t = t :=
  (h.congr ha hu hn).refresh

/-- A row that changes neither the lanes nor the access state needs no following. -/
theorem State.AccessFollows.next_eq {s t u : State} (h : s.AccessFollows) (htu : t = u)
    (ha : u.access = s.access) (hu : u.urgent = s.urgent) (hn : u.normal = s.normal) :
    (.next (refreshAccess t) : Host.Outcome State Fault Refusal) = .next u := by
  subst htu; rw [h.refresh_eq ha hu hn]

/-- What following the lanes can do to the condition (R128, R130). -/
theorem refreshAccess_cases (s : State) :
    (refreshAccess s).access = s.access ∨
    (s.access = .empty ∧ s.noOrders = false ∧ (refreshAccess s).access = s.readyCondition) ∨
    ((s.access = .slotWait ∨ s.access = .openWait) ∧ s.noOrders = true ∧
      (refreshAccess s).access = .empty) := by
  simp only [refreshAccess]
  split
  · rename_i ha; split
    · exact Or.inl rfl
    · rename_i hn; exact Or.inr (Or.inl ⟨ha, by simpa using hn, rfl⟩)
  · rename_i ha; split
    · rename_i hn; exact Or.inr (Or.inr ⟨Or.inl ha, hn, rfl⟩)
    · exact Or.inl rfl
  · rename_i ha; split
    · rename_i hn; exact Or.inr (Or.inr ⟨Or.inr ha, hn, rfl⟩)
    · exact Or.inl rfl
  · exact Or.inl rfl

/-- A station that becomes ready waits: for its slot or for the open line (R130). -/
theorem readyCondition_cases (s : State) :
    s.readyCondition = .slotWait ∨ s.readyCondition = .openWait := by
  simp only [State.readyCondition]
  split
  · split
    · exact Or.inl rfl
    · exact Or.inr rfl
  · exact Or.inl rfl

/-! ### Notices -/

/-- What producing a notice can do: nothing, a record at the tail, or a loss (R173, R175). -/
theorem produce_cases (n : Notice) (s : State) :
    produce n s = s ∨
    (s.notices.any Notice.isLost = false ∧ s.notices.length < 31 ∧
      produce n s = { s with notices := s.notices ++ [n] }) ∨
    (s.notices.any Notice.isLost = false ∧ 31 ≤ s.notices.length ∧
      produce n s =
        { s with notices := s.notices ++ [.lostNotices 1], counters := s.counters.bump .noticesLost }) ∨
    (s.notices.any Notice.isLost = true ∧
      produce n s =
        { s with
          notices := s.notices.map Notice.oneMoreLost, counters := s.counters.bump .noticesLost }) := by
  simp only [produce]
  split
  · by_cases hl : s.notices.any Notice.isLost = true
    · exact Or.inr (Or.inr (Or.inr ⟨hl, by simp only [appendNotice, hl, if_true]⟩))
    · have hl' : s.notices.any Notice.isLost = false := by simpa using hl
      by_cases hn : s.notices.length < 31
      · refine Or.inr (Or.inl ⟨hl', hn, ?_⟩)
        simp only [appendNotice, hl', hn, if_true, Bool.false_eq_true, if_false]
      · refine Or.inr (Or.inr (Or.inl ⟨hl', by omega, ?_⟩))
        simp only [appendNotice, hl', hn, Bool.false_eq_true, if_false]
  · exact Or.inl rfl

/-- Counting one more loss leaves a record without losses as it is. -/
theorem map_oneMoreLost {q : List Notice} (h : q.any Notice.isLost = false) :
    q.map Notice.oneMoreLost = q := by
  induction q with
  | nil => rfl
  | cons x q ih =>
    simp only [List.any_cons, Bool.or_eq_false_iff] at h
    simp only [List.map_cons, ih h.2]
    cases x <;> simp_all [Notice.isLost, Notice.oneMoreLost]

/-- The queue with a notice of a block appended keeps R173. -/
theorem produce_noticesLaw {n : Notice} {s : State} (hn : n.isLost = false) (h : NoticesLaw s.notices) :
    NoticesLaw (produce n s).notices := by
  rcases produce_cases n s with he | ⟨hl, hs, he⟩ | ⟨hl, hs, he⟩ | ⟨hl, he⟩ <;> rw [he]
  · exact h
  · exact Or.inl ⟨by simp; omega, by simp [hn]; simpa using hl⟩
  · rcases h with ⟨hle, _⟩ | ⟨run, c, hq, _, _, _⟩
    · exact Or.inr ⟨s.notices, 1, rfl, hle, hl, by omega⟩
    · simp [hq, Notice.isLost] at hl
  · rcases h with ⟨_, hno⟩ | ⟨run, c, hq, hr, hrun, hc⟩
    · simp [hno] at hl
    · refine Or.inr ⟨run, min 255 (c + 1), ?_, hr, hrun, by omega⟩
      simp [hq, Notice.oneMoreLost, map_oneMoreLost hrun]

/-! ### The lanes -/

/-- A state order request in a transmitting state (R117). -/
theorem requestState_transmits {o : UrgentOrder} {s : State} (h : s.station.transmits = true) :
    requestState o s = { s with urgent := placeState o s.urgent } := by simp [requestState, h]

/-- A request for an order in a state without transmission is dropped (R126). -/
theorem requestState_silent {o : UrgentOrder} {s : State} (h : s.station.transmits = false) :
    requestState o s = s := by simp [requestState, h]

/-- With no state order for the key, the request joins the tail (R117). -/
theorem placeState_tail {o : UrgentOrder} {lane : List UrgentOrder}
    (h : ∀ x ∈ lane, x.isStateOf o.key = false) : placeState o lane = lane ++ [o] := by
  induction lane with
  | nil => rfl
  | cons x l ih =>
    simp [placeState, h x List.mem_cons_self, ih fun y hy => h y (List.mem_cons_of_mem _ hy)]

/-- With a state order for the key queued, its place is taken over (R117). -/
theorem placeState_place {o x : UrgentOrder} {pre post : List UrgentOrder}
    (hpre : ∀ y ∈ pre, y.isStateOf o.key = false) (hx : x.isStateOf o.key = true) :
    placeState o (pre ++ x :: post) = pre ++ mergeState x o :: post := by
  induction pre with
  | nil => simp [placeState, hx]
  | cons y l ih =>
    simp [placeState, hpre y List.mem_cons_self, ih fun z hz => hpre z (List.mem_cons_of_mem _ hz)]

/-- Placing a state order never shortens the lane, and lengthens it by one at most. -/
theorem length_placeState (o : UrgentOrder) (lane : List UrgentOrder) :
    lane.length ≤ (placeState o lane).length ∧ (placeState o lane).length ≤ lane.length + 1 := by
  induction lane with
  | nil => simp [placeState]
  | cons x l ih =>
    simp only [placeState]
    split
    · simp
    · simp only [List.length_cons]; omega

/-- An ASK order request (R120, R126). -/
theorem requestAsk_cases (k : Byte) (s : State) :
    (s.station.transmits = false ∧ requestAsk k s = some s) ∨
    (s.station.transmits = true ∧ s.normal.length < 21 ∧
      requestAsk k s = some { s with normal := s.normal ++ [.ask k] }) ∨
    (s.station.transmits = true ∧ 21 ≤ s.normal.length ∧ requestAsk k s = none) := by
  cases h : s.station.transmits
  · exact Or.inl ⟨rfl, by simp [requestAsk, h]⟩
  · by_cases hn : s.normal.length < 21
    · exact Or.inr (Or.inl ⟨rfl, hn, by simp [requestAsk, h, hn, normalCapacity]⟩)
    · exact Or.inr (Or.inr ⟨rfl, by omega, by simp [requestAsk, h, hn, normalCapacity]⟩)

/-! ### Timers that paused at zero -/

/-- Without a timer at zero nothing expires at the return to IDLE (R114). -/
theorem resumeTimers_none {s : State} (h : s.zeroTimers = []) : resumeTimers s = s := by
  simp [resumeTimers, h, freeOrder, useFree]

/-- A single timer at zero expires (R114). -/
theorem resumeTimers_one {s : State} {t : PausedTimer} (h : s.zeroTimers = [t]) :
    resumeTimers s = refreshAccess (zeroTimerExpires t s) := by
  simp [resumeTimers, h, freeOrder, useFree, settled]

/-! ### Start bits of the own frame -/

/-- Behind its last character an attempt has no start bit that could be overdue (R137, R140). -/
theorem startOverdue_behind {s : State} {a : Attempt} (h : s.access = .driving a)
    (hn : a.frame.encode.length ≤ a.driven / 88) : startOverdue s = s := by
  simp [startOverdue, h, Attempt.startLapsed, Attempt.startOpen, Nat.not_lt.mpr hn]

/-- A station that does not drive has no start bit to lose (R137). -/
theorem startFalse_silent {s : State} (h : s.isDriving = false) :
    startFalse s = catchUp { s with receiver := .searching } := by
  have : ({ s with receiver := .searching } : State).drivesStart = false := by
    cases ha : s.access <;> simp_all [State.drivesStart, State.isDriving, Access.attempt]
  simp [startFalse, this]

/-- A station that does not drive brings nothing to a verdict (R136). -/
theorem driveToVerdict_silent {s : State} (n : Nat) (h : s.isDriving = false) : driveToVerdict n s = s := by
  cases ha : s.access <;> simp_all [driveToVerdict, State.isDriving, Access.attempt]

/-- What the samples up to a verdict do to an attempt: it goes on, or its start bit lapses (R136, R137). -/
theorem driveToVerdict_driving {s : State} {a : Attempt} (n : Nat) (h : s.access = .driving a) :
    driveToVerdict n s =
      if a.lapsesWithin n then endInDriveFault a s else { s with access := .driving (a.driveFor n) } := by
  simp [driveToVerdict, h]

/-! ### Free orders -/

/-- A place that a free value gives moves nothing but the item placed. -/
theorem putAt_perm {α : Type} (i : Nat) (x : α) (l : List α) : (putAt i x l).Perm (x :: l) := by
  unfold putAt
  exact List.perm_middle.trans (by rw [List.take_append_drop])

/-- Every event of a moment is taken once, in some order (log 5). -/
theorem freeOrder_perm {α : Type} (n : Nat) (l : List α) : (freeOrder n l).Perm l := by
  induction l with
  | nil => exact .refl _
  | cons x t ih =>
    cases t with
    | nil => exact .refl _
    | cons y r => exact (putAt_perm _ _ _).trans (ih.cons x)

/-! ### The port -/

/-- Status byte 0 shows the refused flag in bit 4 (12.2). -/
theorem status0_refused (s : State) : s.status0.getLsbD 4 = s.refused := by
  simp only [State.status0]
  generalize s.result.isSome = a
  generalize (!s.notices.isEmpty) = b
  generalize (!s.mailbox.isEmpty) = c
  generalize s.portError = e
  generalize s.refused = d
  generalize s.station = g
  cases a <;> cases b <;> cases c <;> cases d <;> cases e <;> cases g <;> decide

/-- Status byte 0 shows the port_error flag in bit 3 (12.2). -/
theorem status0_portError (s : State) : s.status0.getLsbD 3 = s.portError := by
  simp only [State.status0]
  generalize s.result.isSome = a
  generalize (!s.notices.isEmpty) = b
  generalize (!s.mailbox.isEmpty) = c
  generalize s.portError = e
  generalize s.refused = d
  generalize s.station = g
  cases a <;> cases b <;> cases c <;> cases d <;> cases e <;> cases g <;> decide

/-- A flag that its own status byte showed is cleared when both status bytes were clocked (R169). -/
theorem stickyAfter_shown (flag both : Bool) : stickyAfter flag flag both false = (flag && !both) := by
  cases flag <;> cases both <;> rfl

/-- The bytes of a COMMAND transaction: the status bytes and filler (R166). -/
theorem sentBytes_command (a b : Byte) (n : Nat) :
    sentBytes a b [] (n + 2) = [a, b] ++ List.replicate n 0 := by
  simp only [sentBytes, List.append_nil]
  rw [List.take_append]
  simp

/-- A COMMAND transaction on an idle port with an empty Result Slot: the first 32 bytes of the record go to
its owner (R166, R169, R170). -/
theorem commandTransaction_takes {s : State} (h : s.TakesCommands) (code : Byte) (fields : List Byte) :
    commandTransaction (code :: fields) s =
      ownerTakes code (fields.take 31) (s.clocked (fields.length + 1)) := by
  obtain ⟨⟨_, hp⟩, hr⟩ := h
  have hsdo : sentBytes s.status0 s.status1 [] (fields.length + 1 + 1) =
      [s.status0, s.status1] ++ List.replicate (fields.length + 1 - 1) 0 := sentBytes_command _ _ _
  simp only [commandTransaction, hp, endCommand, List.length_cons, clearSticky, status0_refused,
    status0_portError, stickyAfter_shown, hsdo]
  have h2 : (2 ≤ fields.length + 1 + 1) := by omega
  have ht : (code :: fields).take 32 = code :: fields.take 31 := rfl
  simp only [h2, decide_true, Bool.not_true, Bool.and_false, ht, takeRecord, hr, Option.isSome_none,
    Bool.false_eq_true, if_false, State.clocked]
  congr 1
  cases s; simp_all

/-- A record of at most 32 bytes is taken whole (R170). -/
theorem commandTransaction_taken {s : State} (h : s.TakesCommands) (code : Byte) (fields : List Byte)
    (hl : fields.length ≤ 31) :
    commandTransaction (code :: fields) s = ownerTakes code fields (s.clocked (fields.length + 1)) := by
  rw [commandTransaction_takes h, List.take_of_length_le hl]

/-- The owner of ESTABLISH (12.3). -/
theorem ownerTakes_establish (fields : List Byte) (s : State) :
    ownerTakes cmdEstablish fields s = takeEstablish fields s := rfl

/-- The owner of ASK (12.3). -/
theorem ownerTakes_ask (fields : List Byte) (s : State) :
    ownerTakes cmdAsk fields s = takeAsk fields s := rfl

/-- The owner of RELEASE (12.3). -/
theorem ownerTakes_release (fields : List Byte) (s : State) :
    ownerTakes cmdRelease fields s = takeKeyCommand cmdRelease releaseCommand fields s := rfl

/-- The owner of WATCH (12.3). -/
theorem ownerTakes_watch (fields : List Byte) (s : State) :
    ownerTakes cmdWatch fields s = takeKeyCommand cmdWatch watchCommand fields s := rfl

/-- The owner of UNWATCH (12.3). -/
theorem ownerTakes_unwatch (fields : List Byte) (s : State) :
    ownerTakes cmdUnwatch fields s = takeKeyCommand cmdUnwatch unwatchCommand fields s := rfl

/-- The owner of QUERY (12.3). -/
theorem ownerTakes_query (fields : List Byte) (s : State) :
    ownerTakes cmdQuery fields s = takeKeyCommand cmdQuery queryCommand fields s := rfl

/-- The owner of ROSTER (12.3). -/
theorem ownerTakes_roster (fields : List Byte) (s : State) :
    ownerTakes cmdRoster fields s = takeBareCommand cmdRoster rosterCommand fields s := rfl

/-- The owner of POST (12.3). -/
theorem ownerTakes_post (fields : List Byte) (s : State) :
    ownerTakes cmdPost fields s = takePostCommand fields s := rfl

/-- The owner of LEAVE (12.3). -/
theorem ownerTakes_leave (fields : List Byte) (s : State) :
    ownerTakes cmdLeave fields s = takeBareCommand cmdLeave leaveCommand fields s := rfl

/-- The owner of RESTART (12.3). -/
theorem ownerTakes_restart (fields : List Byte) (s : State) :
    ownerTakes cmdRestart fields s = takeBareCommand cmdRestart restartCommand fields s := rfl

/-- The owner of COUNTERS (12.3). -/
theorem ownerTakes_counters (fields : List Byte) (s : State) :
    ownerTakes cmdCounters fields s = takeBareCommand cmdCounters countersCommand fields s := rfl

end Sys2Proof.Machine
end

