-- ==== Sys2Proof/Laws/PerInstr.lean ====
section
/-! SUPPORT. One lemma per row: the keys and stations that a well-formed row names are in range. -/

namespace Sys2Proof.Laws.WellFormed

/-- The keys a row names as fields of a frame or as keys of an entry. -/
def keys : Instr → List Byte
  | .presenceArrival _ _ _ pairs _ => pairs.map Prod.fst
  | .askArrival _ key _ => [key]
  | .objectArrival _ key _ _ _ _ => [key]
  | .holdArrival _ key _ _ => [key]
  | .freeArrival _ key _ _ _ => [key]
  | .windowExpiry key => [key]
  | .deferralExpiry key => [key]
  | _ => []

/-- The other stations a row names as the source of a frame or as a Roster entry. -/
def stations : Instr → List Addr
  | .presenceArrival source _ _ _ _ => [source]
  | .askArrival source _ _ => [source]
  | .objectArrival source _ _ _ _ _ => [source]
  | .holdArrival source _ _ _ => [source]
  | .freeArrival source _ _ _ _ => [source]
  | .postArrival source _ _ _ => [source]
  | .addressClash source _ => [source]
  | .peerSilent peer => [peer]
  | _ => []

/-- Every key of a well-formed row is 1..254, and no station it names is 0 (R1, R88). -/
def Statement (i : Instr) : Prop :=
  i.wellFormed = true → (∀ k ∈ keys i, k ≠ 0 ∧ k ≠ 255) ∧ ∀ a ∈ stations i, a ≠ 0

/-- A row that names no key and no station. -/
theorem of_nothing {i : Instr} (hk : keys i = []) (hs : stations i = []) : Statement i := by
  intro _; rw [hk, hs]; simp

/-- A row that names one key and one station, both checked. -/
theorem of_both {i : Instr} {k : Byte} {a : Addr} (hk : keys i = [k]) (hs : stations i = [a])
    (hw : i.wellFormed = true → (a != 0) = true ∧ keyInRange k = true) : Statement i := by
  intro h
  obtain ⟨ha, hk'⟩ := hw h
  rw [hk, hs]
  simp only [keyInRange, Bool.and_eq_true, bne_iff_ne] at ha hk'
  simp only [List.mem_singleton, forall_eq]
  exact ⟨hk', ha⟩

/-- A row that names one key, which is checked. -/
theorem of_key {i : Instr} {k : Byte} (hk : keys i = [k]) (hs : stations i = [])
    (hw : i.wellFormed = true → keyInRange k = true) : Statement i := by
  intro h
  have hk' := hw h
  rw [hk, hs]
  simp only [keyInRange, Bool.and_eq_true, bne_iff_ne] at hk'
  simp only [List.mem_singleton, forall_eq]
  exact ⟨hk', by simp⟩

/-- A row that names one station, which is checked. -/
theorem of_station {i : Instr} {a : Addr} (hk : keys i = []) (hs : stations i = [a])
    (hw : i.wellFormed = true → (a != 0) = true) : Statement i := by
  intro h
  have ha := hw h
  rw [hk, hs]
  simp only [bne_iff_ne] at ha
  simp only [List.mem_singleton, forall_eq]
  exact ⟨by simp, ha⟩

/-- The first of two checks. -/
theorem first {a b : Bool} (h : (a && b) = true) : a = true := by cases a <;> simp_all

/-- The second of two checks. -/
theorem second {a b : Bool} (h : (a && b) = true) : b = true := by cases a <;> simp_all

theorem hardReset : ∀ edge, Statement (.hardReset edge) :=
  fun _ => of_nothing rfl rfl

theorem status : ∀ stage, Statement (.status stage) :=
  fun _ => of_nothing rfl rfl

theorem unknownTransactionCode : ∀ code stage, Statement (.unknownTransactionCode code stage) :=
  fun _ _ => of_nothing rfl rfl

theorem fetchResult : ∀ stage, Statement (.fetchResult stage) :=
  fun _ => of_nothing rfl rfl

theorem fetchNotice : ∀ stage, Statement (.fetchNotice stage) :=
  fun _ => of_nothing rfl rfl

theorem fetchMail : ∀ stage, Statement (.fetchMail stage) :=
  fun _ => of_nothing rfl rfl

theorem commandRefused : ∀ record, Statement (.commandRefused record) :=
  fun _ => of_nothing rfl rfl

theorem unknownCommand : ∀ code fields, Statement (.unknownCommand code fields) :=
  fun _ _ => of_nothing rfl rfl

theorem establish : ∀ fields, Statement (.establish fields) :=
  fun _ => of_nothing rfl rfl

theorem ask : ∀ fields, Statement (.ask fields) :=
  fun _ => of_nothing rfl rfl

theorem release : ∀ fields, Statement (.release fields) :=
  fun _ => of_nothing rfl rfl

theorem watch : ∀ fields, Statement (.watch fields) :=
  fun _ => of_nothing rfl rfl

theorem unwatch : ∀ fields, Statement (.unwatch fields) :=
  fun _ => of_nothing rfl rfl

theorem query : ∀ fields, Statement (.query fields) :=
  fun _ => of_nothing rfl rfl

theorem roster : ∀ fields, Statement (.roster fields) :=
  fun _ => of_nothing rfl rfl

theorem post : ∀ fields, Statement (.post fields) :=
  fun _ => of_nothing rfl rfl

theorem leave : ∀ fields, Statement (.leave fields) :=
  fun _ => of_nothing rfl rfl

theorem restart : ∀ fields, Statement (.restart fields) :=
  fun _ => of_nothing rfl rfl

theorem counters : ∀ fields, Statement (.counters fields) :=
  fun _ => of_nothing rfl rfl

theorem character : ∀ data mark noisy framingError cut,
    Statement (.character data mark noisy framingError cut) :=
  fun _ _ _ _ _ => of_nothing rfl rfl

theorem gapLimit : Statement (.gapLimit) :=
  of_nothing rfl rfl

theorem settlingEnd : Statement (.settlingEnd) :=
  of_nothing rfl rfl

theorem longDominant : Statement (.longDominant) :=
  of_nothing rfl rfl

theorem stuckBegin : Statement (.stuckBegin) :=
  of_nothing rfl rfl

theorem stuckEnd : Statement (.stuckEnd) :=
  of_nothing rfl rfl

theorem presenceArrival : ∀ source joining leaving pairs noisy,
    Statement (.presenceArrival source joining leaving pairs noisy) := by
  intro source joining leaving pairs noisy h
  have hp : (pairs.all fun p => keyInRange p.1) = true := second h
  have ha : (source != 0) = true := first (first h)
  simp only [keyInRange, Bool.and_eq_true, bne_iff_ne, List.all_eq_true] at hp ha
  refine ⟨fun k hk => ?_, fun a hm => ?_⟩
  · obtain ⟨x, hx, rfl⟩ := List.mem_map.mp hk
    exact hp x hx
  · rw [List.mem_singleton.mp hm]
    exact ha

theorem askArrival : ∀ source key noisy, Statement (.askArrival source key noisy) :=
  fun _ _ _ => of_both rfl rfl fun h => ⟨first h, second h⟩

theorem objectArrival : ∀ source key precedent reason gen noisy,
    Statement (.objectArrival source key precedent reason gen noisy) :=
  fun _ _ _ _ _ _ => of_both rfl rfl fun h => ⟨first (first (first h)), second (first (first h))⟩

theorem holdArrival : ∀ source key gen noisy, Statement (.holdArrival source key gen noisy) :=
  fun _ _ _ _ => of_both rfl rfl fun h => ⟨first h, second h⟩

theorem freeArrival : ∀ source key gen withdrawn noisy,
    Statement (.freeArrival source key gen withdrawn noisy) :=
  fun _ _ _ _ _ => of_both rfl rfl fun h => ⟨first h, second h⟩

theorem postArrival : ∀ source destination payload noisy,
    Statement (.postArrival source destination payload noisy) :=
  fun _ _ _ _ => of_station rfl rfl fun h => first (first (first h))

theorem addressClash : ∀ source noisy, Statement (.addressClash source noisy) :=
  fun _ _ => of_station rfl rfl fun h => h

theorem attemptBegin : Statement (.attemptBegin) :=
  of_nothing rfl rfl

theorem yield : Statement (.yield) :=
  of_nothing rfl rfl

theorem driveFault : Statement (.driveFault) :=
  of_nothing rfl rfl

theorem attemptCompletes : ∀ noisy, Statement (.attemptCompletes noisy) :=
  fun _ => of_nothing rfl rfl

theorem windowExpiry : ∀ key, Statement (.windowExpiry key) :=
  fun _ => of_key rfl rfl fun h => h

theorem deferralExpiry : ∀ key, Statement (.deferralExpiry key) :=
  fun _ => of_key rfl rfl fun h => h

theorem listenExpiry : Statement (.listenExpiry) :=
  of_nothing rfl rfl

theorem leaveLimitExpiry : Statement (.leaveLimitExpiry) :=
  of_nothing rfl rfl

theorem peerSilent : ∀ peer, Statement (.peerSilent peer) :=
  fun _ => of_station rfl rfl fun h => h

theorem presencePeriod : Statement (.presencePeriod) :=
  of_nothing rfl rfl

theorem silenceCountExpiry : Statement (.silenceCountExpiry) :=
  of_nothing rfl rfl

theorem startBitVerified : ∀ noisy, Statement (.startBitVerified noisy) :=
  fun _ => of_nothing rfl rfl

theorem falseStart : Statement (.falseStart) :=
  of_nothing rfl rfl

theorem firstRecessiveSample : Statement (.firstRecessiveSample) :=
  of_nothing rfl rfl

end Sys2Proof.Laws.WellFormed
end

