-- ==== Sys2Proof/Tests/Slice0.lean ====
section
/-! SUPPORT. Tests: the checks of WellFormed refuse ill-formed rows, the examples of the spec come out as it
prints them, and every hypothesis of a statement is met by a concrete state. -/

open Sys2Proof Sys2Proof.Machine

namespace Sys2Proof.Tests

/-! ### WellFormed -/

theorem test_known_code_is_no_unknown_transaction :
    (Instr.unknownTransactionCode 0xA3 (.rise 1)).wellFormed = false ∧
    (Instr.unknownTransactionCode 0x9F (.rise 1)).wellFormed = true := by decide

theorem test_known_code_is_no_unknown_command :
    (Instr.unknownCommand 0x0B []).wellFormed = false ∧ (Instr.unknownCommand 0x0C []).wellFormed = true := by
  decide

theorem test_record_longer_than_the_buffer :
    (Instr.commandRefused (List.replicate 33 0)).wellFormed = false ∧
    (Instr.unknownCommand 0 (List.replicate 32 0)).wellFormed = false := by decide

theorem test_fields_longer_than_the_buffer :
    [Instr.establish, .ask, .release, .watch, .unwatch, .query, .roster, .post, .leave, .restart, .counters].all
      (fun f => !(f (List.replicate 32 0)).wellFormed && (f (List.replicate 31 0)).wellFormed) = true := by
  decide

theorem test_framing_error_with_cut_stop_bit :
    (Instr.character 0 false false true true).wellFormed = false := by decide

theorem test_arrival_keys_out_of_range :
    [Instr.askArrival 1 0 false, .askArrival 1 255 false, .objectArrival 1 0 1 1 0 false, .holdArrival 1 255 0 false,
     .freeArrival 1 0 0 false false, .presenceArrival 1 false false [(0, 1)] false, .windowExpiry 0,
     .deferralExpiry 255].all (fun i => !i.wellFormed) = true := by decide

theorem test_arrival_sources_out_of_range :
    [Instr.askArrival 0 1 false, .objectArrival 0 1 1 1 0 false, .holdArrival 0 1 0 false,
     .freeArrival 0 1 0 false false, .presenceArrival 0 false false [] false, .postArrival 0 1 [1] false,
     .addressClash 0 false, .peerSilent 0].all (fun i => !i.wellFormed) = true := by decide

theorem test_arrival_fields_out_of_range :
    [Instr.objectArrival 1 1 32 1 0 false, .objectArrival 1 1 2 0 0 false, .objectArrival 1 1 2 3 0 false,
     .postArrival 1 32 [1] false, .postArrival 1 2 [] false, .postArrival 1 2 (List.replicate 17 0) false,
     .presenceArrival 1 false false (List.replicate 17 (1, 1)) false].all (fun i => !i.wellFormed) = true := by
  decide

/-! ### States -/

/-- A configuration with S = 16, W = 21. -/
def config : Configuration :=
  { silenceUnit := 16, window := 21, retryLimit := 2, mask := 0x3F, broadcast := true }

/-- One entry of every kind, and keys at both ends of the range. -/
def places : List (Option Entry) :=
  [some { key := 1, want := .none, gen := 0, claim := .free },
   some { key := 2, want := .wait, gen := 9, claim := .peerAsking 7 (ms 42) },
   some { key := 3, want := .once, gen := 0, claim := .asking none },
   some { key := 4, want := .wait, gen := 1, claim := .asking (some (ms 21)) },
   some { key := 5, want := .none, gen := 255, claim := .mine },
   some { key := 254, want := .none, gen := 4, claim := .theirs 7 }] ++ List.replicate 10 none

/-- Station 6, ACTIVE on an idle line, with an ASK and a PRESENCE queued. -/
def online : State :=
  { State.reset with
    ownAddr := 6, station := .active, config := some config, receiver := .searching, monitor := .idle 80 10
    table := places, roster := (List.replicate 32 none).set 7 (some { age := 0, joining := false, frames := 1 })
    own := { present := true, joining := false, silence := some 0, presence := some 0, listen := none }
    normal := [.ask 3, .presence false], access := .slotWait }

/-- The same station while it listens: no key taken, no ask sent, its first PRESENCE out. -/
def listening : State :=
  { online with
    station := .listening
    table := [some { key := 1, want := .none, gen := 0, claim := .free },
      some { key := 2, want := .once, gen := 0, claim := .asking none }] ++ List.replicate 14 none
    own := { present := true, joining := true, silence := some 0, presence := some 0, listen := some (ms 128) }
    normal := [], access := .empty }

/-- The entries of `online`. -/
def entryOf (k : Byte) : Entry := (online.entry k).getD (newEntry k)

theorem online_at (n : Nat) (e : Entry) (h : places[n]? = some (some e)) : online.EntryAt n e :=
  .of_nodup (by decide) h

/-- An attempt at an order with its frame. -/
def driving (o : Order) (b : Body) : State :=
  { online with
    monitor := .busy
    access := .driving { order := o, frame := { source := 6, body := b }, driven := 0, checked := 0 } }

/-- What the table of `online` holds. -/
theorem online_entries {e : Entry} (h : some e ∈ online.table) :
    e = entryOf 1 ∨ e = entryOf 2 ∨ e = entryOf 3 ∨ e = entryOf 4 ∨ e = entryOf 5 ∨ e = entryOf 254 := by
  simp only [online, places, List.cons_append, List.nil_append, List.mem_cons, List.mem_replicate, Option.some.injEq,
    reduceCtorEq, and_false, or_false] at h
  exact h

theorem test_online_keeps_the_table_law : online.TableLaw := by
  refine ⟨by decide, by decide, fun e h => ?_⟩
  rcases online_entries h with rfl | rfl | rfl | rfl | rfl | rfl <;>
    refine ⟨by decide, fun a h => ?_, fun a d h => ?_⟩ <;>
    simp [entryOf, State.entry, findEntry, online, places] at h ⊢ <;> simp [← h]

theorem test_online_keeps_the_life_law : online.LifeLaw := by
  refine ⟨by decide, by decide, by decide, fun e h => ?_⟩
  rcases online_entries h with rfl | rfl | rfl | rfl | rfl | rfl <;>
    simp [online]

theorem test_online_keeps_the_lane_law : online.LaneLaw := by
  refine ⟨by decide, by decide, by decide, by simp [online, State.reset, State.initial], by decide, ?_, by decide, by decide, ?_, ?_⟩
  · intro k h
    obtain rfl : k = 3 := by simpa [online] using h
    decide
  · intro o k h; simp [State.slotOrder, online, Access.attempt] at h
  · intro k t h; simp [State.slotOrder, online, Access.attempt] at h

theorem test_online_keeps_the_other_laws :
    NoticesLaw online.notices ∧ online.MailboxLaw ∧ online.StationLaw ∧ online.RosterLaw ∧ online.AccessFollows := by
  refine ⟨Or.inl (by decide), ⟨by decide, by decide⟩, ⟨by decide, by decide, by decide, by decide, ?_⟩,
    ⟨by decide, by decide, by decide, ?_⟩, by decide⟩
  · intro c h
    obtain rfl : config = c := by simpa [online] using h
    decide
  · have key : ∀ p : Addr, (online.peer p).all
        (fun e => decide (1 ≤ e.frames ∧ e.frames ≤ 255 ∧ e.age ≤ online.silenceTimeout)) = true := by decide
    intro p e h
    simpa [h] using key p

/-- `listening` keeps the law of the table. -/
theorem test_listening_keeps_the_table_law : listening.TableLaw := by
  refine ⟨by decide, by decide, fun e h => ?_⟩
  simp only [listening, List.cons_append, List.nil_append, List.mem_cons, List.mem_replicate, Option.some.injEq,
    reduceCtorEq, and_false, or_false] at h
  rcases h with rfl | rfl <;> simp [validKey]

/-! ### The examples of the spec -/

/-- Character 0 of a HOLD from station 6 is 0x33 (12.1). -/
theorem test_hold_from_6 :
    ({ source := 6, body := .hold 5 255 } : Frame).chars = [0x33, 5, 255] ∧
    kindOf 0x33 = some .hold ∧ sourceOf 0x33 = 6 := by decide

/-- The check byte is the CRC-8 with polynomial 0x07 from 0xFF: of no byte 0xFF, of 0x00 0xF3 (R82). -/
theorem test_check_byte : crc8 [] = 0xFF ∧ crc8 [0x00] = 0xF3 := by decide

/-- A character is driven as start bit, data from the least significant bit, mark bit, stop bit (R98). -/
theorem test_levels_of_character_0 :
    (List.range 11).map (({ source := 6, body := .hold 5 255 } : Frame).levelAt) =
      [.dominant, .recessive, .recessive, .dominant, .dominant, .recessive, .recessive, .dominant, .dominant,
       .recessive, .recessive] := by decide

/-- Rank 0 follows the last source, and the last source comes last (R129). -/
theorem test_ranks :
    ({ online with lastSource := 5 } : State).rank = 0 ∧ ({ online with lastSource := 6 } : State).rank = 30 ∧
    ({ online with lastSource := 7 } : State).rank = 29 ∧ online.rank = 5 := by decide

/-- The first notice a station can produce, and the bytes of the snapshot of a MINE entry (12.4). -/
theorem test_snapshot_of_a_key_that_is_mine :
    online.snapshot 5 (entryOf 5) = [5, 4, 3, 0, 6, 0, 255, 0, 0, 0, 0, 0, 0, 0] := by decide

/-- A tick on an idle line hands the idle age on after eight samples (R105). -/
theorem test_tick_counts_idle_samples :
    (tick { online with normal := [], access := .empty, monitor := .idle 87 10 }).monitor = .idle 88 11 := by
  decide

/-! ### Every hypothesis of a statement is met: steps and the port -/

theorem test_meets_StepTakesTheFrontCommand :
    ({ State.reset with pending := [.gapLimit] } : State).pending = .gapLimit :: [] ∧ State.reset.pending = [] := by
  decide

theorem test_meets_HardResetStartsEveryBlock :
    ({ State.reset with inReset := true } : State).inReset = true ∧ ∀ e, Instr.gapLimit ≠ .hardReset e := by
  simp

/-- A full Notice Queue with a loss recorded. -/
def crowded : State := { online with notices := List.replicate 31 (.left .heard) ++ [.lostNotices 254] }

theorem test_meets_StatusIsTakenAtTheFall :
    crowded.notices.length = 32 ∧ crowded.PortIdle ∧ crowded.AccessFollows ∧
    ({ crowded with port := .selected 1 2 } : State).AccessFollows := by decide

/-- The bytes of a transaction spell its row (R167, 12.3). -/
theorem test_host_rows :
    hostRow [] = none ∧ hostRow [0xA0, 0] = some (.status (.rise 2)) ∧
    hostRow [0xA1, 2, 5, 1] = some (.ask [5, 1]) ∧ hostRow [0xA1, 0x0C] = some (.unknownCommand 0x0C []) ∧
    hostRow [0xA3, 0, 0, 0, 0, 0] = some (.fetchNotice (.rise 6)) ∧
    hostRow [0xA5] = some (.unknownTransactionCode 0xA5 (.rise 1)) ∧
    (List.range 256).filter (fun n => knownTransactionCode (BitVec.ofNat 8 n)) = [160, 161, 162, 163, 164] := by
  decide

theorem test_meets_UnknownCodeSetsPortError :
    online.PortIdle ∧ online.AccessFollows ∧ (0x9F : Byte).toNat < 0xA0 ∧ 0xA4 < (0xA5 : Byte).toNat := by decide

theorem test_meets_FetchResultAndMailRemoveAWholeRecord :
    ({ online with result := some [1, 5, 4, 1, 0] } : State).PortIdle ∧ online.PortIdle ∧ online.result = none ∧
    online.AccessFollows ∧
    online.mailbox = [] ∧ ({ online with mailbox := [⟨7, false, [1]⟩] } : State).PortIdle ∧
    ({ online with mailbox := [⟨7, false, [1]⟩], port := .running .fetchMail 0 0 [7, 0, 1, 1] true } :
      State).AccessFollows ∧
    ({ online with port := .running .fetchMail 0 0 noneMail false } : State).inReset = false := by decide

theorem test_meets_FetchNoticeRemovesTheHead :
    crowded.PortIdle ∧ crowded.notices ≠ [] ∧ online.notices = [] ∧ crowded.AccessFollows ∧
    (Notice.left .heard).isLost = false ∧ (Notice.left .heard).bytes.length = 4 ∧
    ({ online with
        notices := [.lostNotices 255], port := .running .fetchNotice 0 0 (Notice.lostNotices 254).bytes true } :
      State).notices = [.lostNotices 255] ∧ 254 < 255 ∧
    ({ online with port := .running .fetchNotice 0 0 noneNotice false } : State).AccessFollows := by decide

theorem test_meets_CommandRecordIsJudgedInSteps :
    ({ online with result := some [0] } : State).PortIdle ∧
    ({ online with result := some [0] } : State).AccessFollows ∧
    online.TakesCommands ∧ online.AccessFollows ∧ (0 : Byte).toNat = 0 ∧ 11 < (12 : Byte).toNat ∧
    [1, 2, 3, 4].length ≠ 5 ∧ [1].length ≠ 2 ∧ ([] : List Byte).length ≠ 1 ∧ [1, 2].length < 3 ∧
    [(1 : Byte)] ≠ [] := by decide

/-- The longest record, and the example of 12.5: TAKEN of key 50 by holder 6 at generation 15. -/
theorem test_meets_records :
    (List.replicate 32 (0 : Byte)).length ≤ 32 ∧
    (resultRecord .done 11 .active (List.replicate 32 0)).length = 37 ∧
    (Notice.taken 0x32 6 0x0F).bytes = [0x0B, 0x32, 0x06, 0x0F] ∧ (255 ≤ 255) ∧
    [Counter.framesOk, .framesOwn][1]? = some .framesOwn := by decide

/-- ATTN_N goes low with the first record of any store, and SDO is driven while a transaction goes on (R166, R177). -/
theorem test_pins_of_the_port :
    online.attention = false ∧ ({ online with result := some [] } : State).attention = true ∧
    ({ online with notices := [.left .heard] } : State).attention = true ∧
    ({ online with mailbox := [⟨7, false, [1]⟩] } : State).attention = true ∧
    online.sdoDriven = false ∧ ({ online with port := .selected 0 0 } : State).sdoDriven = true := by decide

theorem test_meets_NoticeJoinsOrIsCountedLost :
    NoticesLaw crowded.notices ∧ (List.replicate 31 (Notice.left .heard)).any Notice.isLost = false ∧
    NoticesLaw (List.replicate 30 (Notice.left .heard)) ∧ NoticesLaw (List.replicate 31 (Notice.left .heard)) ∧
    (Notice.postSent 1).maskPlace = some 5 ∧ config.mask.getLsbD 5 = true ∧
    State.reset.config = none ∧ (Notice.left .heard).maskPlace = none :=
  ⟨Or.inr ⟨_, 254, rfl, by decide⟩, by decide, Or.inl (by decide), Or.inl (by decide), by decide⟩

/-! ### Commands -/

theorem test_meets_EstablishConfiguresAndListens :
    State.reset.TakesCommands ∧ State.reset.station = .unconfigured ∧ State.reset.ownAddr ≠ 0 ∧
    State.reset.addrInUse = false ∧ State.reset.urgent = [] ∧ State.reset.normal = [] ∧
    EstablishInRange State.reset.rate 11 21 15 0x3F 1 ∧ EstablishInRange 3 2 3 1 0 0 := by decide

theorem test_meets_EstablishChecksInOrder :
    State.reset.AccessFollows ∧ ({ State.reset with ownAddr := 0 } : State).ownAddr = 0 ∧
    ({ State.reset with addrInUse := true } : State).TakesCommands ∧
    ¬ EstablishInRange State.reset.rate 11 20 15 0x3F 1 ∧ ¬ EstablishInRange State.reset.rate 10 21 15 0x3F 1 ∧
    online.TakesCommands ∧ online.AccessFollows ∧ EstablishInRange online.rate 255 255 15 0 0 ∧
    online.station ≠ .unconfigured :=
  ⟨by decide, by decide, by decide, by decide, by decide, by decide, by decide, by decide, by decide⟩

theorem test_meets_AskStartsAnAsk :
    online.TakesCommands ∧ online.station = .active ∧ online.normal.length < 21 ∧
    online.EntryAt 0 (entryOf 1) ∧ (entryOf 1).claim = .free ∧
    listening.TakesCommands ∧ listening.station = .listening ∧ listening.entry 254 = none ∧
    listening.table = listening.table.take 2 ++ none :: listening.table.drop 3 ∧
    (∀ x ∈ listening.table.take 2, x.isSome = true) :=
  ⟨by decide, by decide, by decide, online_at _ _ (by decide), by decide⟩

theorem test_meets_AskOnATakenKey :
    online.AccessFollows ∧ online.EntryAt 4 (entryOf 5) ∧ (entryOf 5).claim = .mine ∧
    online.EntryAt 2 (entryOf 3) ∧ (entryOf 3).claim = .asking none ∧
    online.EntryAt 5 (entryOf 254) ∧ (entryOf 254).claim = .theirs 7 ∧
    online.EntryAt 1 (entryOf 2) ∧ (entryOf 2).claim = .peerAsking 7 (ms 42) :=
  ⟨by decide, online_at _ _ (by decide), by decide, online_at _ _ (by decide), by decide,
   online_at _ _ (by decide), by decide, online_at _ _ (by decide), by decide⟩

/-- A station with every place of its table taken and its normal lane full. -/
def packed : State :=
  { online with
    table := (List.range 16).map fun i =>
      some { key := BitVec.ofNat 8 (i + 1), want := .none, gen := 0, claim := .free }
    normal := List.replicate 21 (.post { destination := 7, tag := 0, payload := [1] }) }

theorem test_meets_KeyCommandsAreRefused :
    State.reset.TakesCommands ∧ State.reset.AccessFollows ∧ State.reset.station = .unconfigured ∧
    packed.TakesCommands ∧ packed.AccessFollows ∧ packed.station = .active ∧ packed.entry 17 = none ∧
    (∀ x ∈ packed.table, x.isSome = true) ∧ 21 ≤ packed.normal.length ∧
    packed.EntryAt 0 (newEntry 1) ∧ online.entry 6 = none ∧ (∃ x ∈ online.table, x = none) ∧
    ({ online with normal := packed.normal } : State).AccessFollows :=
  ⟨by decide, by decide, by decide, by decide, by decide, by decide, by decide, by decide, by decide,
   .of_nodup (by decide) (by decide), by decide⟩

theorem test_meets_ReleaseEndsHoldsAndAsks :
    online.EntryAt 3 (entryOf 4) ∧ (entryOf 4).claim = .asking (some (ms 21)) ∧ (entryOf 2).want = .wait ∧
    (entryOf 254).want ≠ .wait :=
  ⟨online_at _ _ (by decide), by decide⟩

theorem test_meets_WatchAndUnwatchKeepTheTable :
    online.station ≠ .unconfigured ∧ online.station ≠ .offline ∧ online.EntryAt 0 (entryOf 1) ∧
    online.busyKey 1 (entryOf 1) = false ∧ online.busyKey 5 (entryOf 5) = true ∧
    online.table = online.table.take 6 ++ none :: online.table.drop 7 ∧
    (∀ x ∈ online.table.take 6, x.isSome = true) ∧ online.entry 253 = none :=
  ⟨by decide, by decide, online_at _ _ (by decide), by decide⟩

theorem test_meets_StateOrderTakesOverItsPlace :
    online.station.transmits = true ∧ online.urgent = [] ∧
    (∀ x ∈ [UrgentOrder.object 5, .hold 4], x ≠ .hold 5 ∧ ∀ w, x ≠ .free 5 w) ∧
    ({ online with urgent := [.object 5, .hold 4, .free 5 false] } : State).urgent =
      [.object 5, .hold 4] ++ .free 5 false :: [] := by simp [online, State.reset, State.initial, StationState.transmits]

theorem test_meets_QueryAndRosterReport :
    online.TakesCommands ∧ online.roster.length = 32 ∧ online.entry 253 = none ∧ online.AccessFollows ∧ online.EntryAt 5 (entryOf 254) ∧
    (entryOf 254).key.toNat = 254 :=
  ⟨by decide, by decide, by decide, by decide, online_at _ _ (by decide), by decide⟩

theorem test_meets_PostIsCheckedAndQueued :
    online.TakesCommands ∧ (16 : Byte).toNat ≤ 16 ∧ (List.replicate 16 (0 : Byte)).length = (16 : Byte).toNat ∧
    (31 : Byte).toNat ≤ 31 ∧ (31 : Byte) ≠ addrByte online.ownAddr ∧ online.pendingPosts < 4 ∧
    4 ≤ packed.pendingPosts ∧ packed.AccessFollows ∧ (6 : Byte) = addrByte online.ownAddr ∧
    State.reset.station ≠ .listening := by decide

theorem test_meets_LeaveReleasesEverything :
    online.TakesCommands ∧ online.station = .active ∧ online.TableLaw ∧ online.LifeLaw ∧ online.LaneLaw ∧
    State.reset.TakesCommands ∧ State.reset.AccessFollows ∧ State.reset.station ≠ .active :=
  ⟨by decide, rfl, test_online_keeps_the_table_law, test_online_keeps_the_life_law, test_online_keeps_the_lane_law,
   by decide⟩

/-! ### Frames and the line -/

/-- The longest PRESENCE. -/
def longest : Frame :=
  { source := 31, body := .presence true false (List.replicate 16 (254, 255)) }

theorem test_meets_FrameIsReadBackFromItsBytes :
    longest.inRange = true ∧ longest.encode.length = 35 ∧
    ({ source := 1, body := .post 31 (List.replicate 16 0) } : Frame).inRange = true :=
  ⟨by decide, by simp [longest, Frame.encode, Frame.chars, Body.chars, List.replicate, pairBytes], by decide⟩

/-- The station drives the last sample of a frame of three characters, and the first one behind it. -/
theorem test_meets_FrameIsReadBackFromItsBytes_while_driving :
    ∃ a b : Attempt, a.frame = { source := 6, body := .ask 3 } ∧ b.frame = a.frame ∧ a.frame.encode.length = 3 ∧
      a.driven = 88 * 2 + 8 * 10 + 7 ∧ 88 * 3 ≤ b.driven ∧ a.frame.inRange = true :=
  ⟨{ order := .normal (.ask 3), frame := { source := 6, body := .ask 3 }, driven := 263, checked := 0 },
   { order := .normal (.ask 3), frame := { source := 6, body := .ask 3 }, driven := 264, checked := 0 }, by decide⟩

theorem test_meets_CharactersOfAFrameAreItsArrival :
    ({ source := 7, body := .hold 254 0 } : Frame).inRange = true ∧
    [true, false, false, true].length = ({ source := 7, body := .hold 254 0 } : Frame).encode.length ∧
    online.decoder = .waiting ∧ online.isDriving = false ∧ online.monitor.isSettling = false ∧
    ({ online with decoder := .assembling ⟨.hold, 7, [0x3B], some 4, false⟩ } : State).Hears ∧ online.ownAddr ≠ 0 ∧
    isArrival (.addressClash 7 false) = true := by decide

/-- A station that drives an ASK and has received `n` of its characters. -/
def echoing (n : Nat) : State :=
  { driving (.normal (.ask 3)) (.ask 3) with
    decoder := .assembling
      { kind := .ask, source := 6, chars := ({ source := 6, body := .ask 3 } : Frame).encode.take n
        expected := some 3, noisy := false } }

set_option maxRecDepth 8000 in
theorem test_meets_CharacterIsTakenByTheDecoder_while_driving :
    (echoing 1).monitor.timersRun = true ∧ (echoing 1).isDriving = true ∧ (echoing 0).inReset = false ∧
    ({ source := 6, body := .ask 3 } : Frame).inRange = true ∧
    ({ source := 6, body := .ask 3 } : Frame).encode[1]? = some 3 ∧
    ({ source := 6, body := .ask 3 } : Frame).encode[1]? ≠ some 4 ∧
    ({ source := 6, body := .ask 3 } : Frame).encode.length = 3 ∧ Body.kind (.ask 3) = .ask := by decide

set_option maxRecDepth 8000 in
theorem test_meets_CharacterIsTakenByTheDecoder_in_a_frame :
    online.monitor.timersRun = true ∧ LengthFits .hold [0x3B, 5] ∧
    frameLength .presence [0x38, 2] = some 7 ∧ frameLength .post [0x3D, 6] = none ∧
    frameLength .hold [0x3B, 5, 255, crc8 [0x3B, 5, 255]] = some [0x3B, (5 : Byte), 255, 0].length ∧
    readBody .hold [5, 255] = some (.hold 5 255) ∧ ({ source := 7, body := .hold 5 255 } : Frame).inRange = true ∧
    ({ source := 7, body := .hold 0 255 } : Frame).inRange = false :=
  ⟨by decide, ⟨by simp, by simp⟩, by decide⟩

theorem test_meets_CharacterIsTakenByTheDecoder :
    online.Hears ∧ online.decoder = .waiting ∧ kindOf 0x33 = some .hold ∧ kindOf 0x36 = none ∧
    ({ online with decoder := .skipping } : State).Hears ∧
    ({ online with decoder := .assembling ⟨.presence, 7, [0x38], none, false⟩ } : State).Hears ∧
    16 < ((0x11 : Byte) &&& 31).toNat ∧
    ({ online with decoder := .assembling ⟨.post, 7, [0x3D, 6], none, false⟩ } : State).Hears ∧
    16 < (17 : Byte).toNat := by decide

set_option maxRecDepth 4000 in
theorem test_meets_CharactersOfAFrameAreItsArrival_when_discarded :
    ({ source := 0, body := .hold 0 0 } : Frame).lengthInRange = true ∧
    ({ source := 0, body := .hold 0 0 } : Frame).inRange = false ∧
    (0 : Byte) ≠ crc8 ({ source := 0, body := .hold 0 0 } : Frame).chars := by decide

theorem test_meets_GapRunsAndCountsOfTheMonitor_at_the_gap_limit :
    ({ online with monitor := .idle 25 3 } : State).AccessFollows ∧ (3 < 4) ∧
    online.receiver.isStarting = false := by decide

/-- The line in SETTLING and in STUCK, and the last bits of one level: none, some and all of the mark bit and the
eight data bits (R104, R108). -/
theorem test_meets_CharacterInSettlingOrStuckIsDropped :
    State.reset.monitor = .settling 0 ∧ State.reset.isDriving = false ∧ State.reset.inReset = false ∧
    ({ online with monitor := .stuck 0 } : State).AccessFollows ∧
    trailing .recessive 0xFF true = 9 ∧ trailing .recessive 0xFF false = 0 ∧ trailing .recessive 0xF0 true = 5 ∧
    trailing .dominant 0 false = 9 ∧ trailing .dominant 0x7F false = 2 ∧
    framingErrorRun 0 false = 85 ∧ framingErrorRun 0x7F false = 21 ∧ framingErrorRun 0 true = 5 := by decide

/-- A stuck line whose end is due, with a window that paused at zero. -/
def stuckAtZero : State :=
  { online with
    monitor := .stuck 95
    table := [some { key := 4, want := .wait, gen := 1, claim := .asking (some 0) }] ++ List.replicate 15 none }

theorem test_meets_GapRunsAndCountsOfTheMonitor :
    State.reset.isDriving = false ∧ State.reset.AccessFollows ∧ State.reset.monitor = .settling 0 ∧
    ({ online with monitor := .stuck 95 } : State).isDriving = false ∧ online.monitor.isStuck = false ∧
    online.longMark = false ∧ stuckAtZero.monitor = .stuck 95 ∧ stuckAtZero.station.transmits = true ∧
    stuckAtZero.EntryAt 0 { key := 4, want := .wait, gen := 1, claim := .asking (some 0) } :=
  ⟨by decide, by decide, by decide, by decide, by decide, by decide, by decide, by decide,
   .of_nodup (by decide) (by decide)⟩

theorem test_meets_NoZeroTimer : online.NoZeroTimer none ∧ stuckAtZero.NoZeroTimer (some 0) := by
  refine ⟨⟨fun i e h _ => ?_, by decide⟩, ⟨fun i e h hi => ?_, by decide⟩⟩
  · rcases online_entries (List.mem_of_getElem? h) with rfl | rfl | rfl | rfl | rfl | rfl <;>
      refine ⟨by decide, fun a h => ?_⟩ <;> simp [entryOf, State.entry, findEntry, online, places, ms] at h
  · rcases i with _ | i
    · simp at hi
    · have hm := List.mem_of_getElem? (l := List.replicate 15 (none : Option Entry)) (i := i) h
      simp at hm

/-- The state after a row. -/
def after (c : Instr) (s : State) : State :=
  match exec c s with
  | .next t => t
  | _ => s

/-- The first recessive sample counts, and the tick that ends STUCK grants the key whose window paused at zero
(R113, R114). -/
theorem test_stuck_end_expires_a_window_at_zero :
    (tick (after .firstRecessiveSample { stuckAtZero with receiver := .recovering })).table.head? =
      some (some { key := 4, want := .none, gen := 2, claim := .mine }) := by decide

/-- A verified start bit in SETTLING begins the recessive count anew, and its run goes on into point 7
(R104, R108, R110). -/
theorem test_start_bit_in_settling :
    let t := after (.startBitVerified false) { State.reset with receiver := .searching, monitor := .settling 95 }
    t.monitor = .settling 0 ∧ t.run = some 5 ∧ (tick { t with line := [.held] }).run = some 6 ∧
    (tick { t with line := [.held] }).receiver =
      .receiving { bit := 0, point := 7, mids := [], value := some .dominant, bits := [], noisy := false } := by
  decide

/-- A station in SLOT_WAIT whose idle age a candidate has held back. -/
def held (age elapsed : Nat) : State := { online with monitor := .idle elapsed age }

theorem test_meets_StartBitsAndRecovery :
    online.AccessFollows ∧ online.isDriving = false ∧ online.receiver.awaitsStart = true ∧
    online.monitor = .idle 80 10 ∧ ¬ BeginsBetween 10 ((80 + toVerdict online) / 8) (judgedFalse online) ∧
    State.reset.receiver = .recovering ∧ online.AccessFollows ∧
    BeginsBetween 16 ((135 + toVerdict (held 16 135)) / 8) (judgedFalse (held 16 135)) ∧
    (held 16 135).urgent = [] ∧ (held 16 135).normal = .ask 3 :: [.presence false] ∧
    BeginsBetween 42 ((340 + 6) / 8) (judgedFalse { held 42 340 with access := .openWait }) := by decide

/-- A false start hands on the slot that its candidate held back, and the gap limit before it (R105, R106). -/
theorem test_false_start_catches_up :
    (after .falseStart (held 16 135)).isDriving = true ∧ (after .falseStart (held 16 135)).monitor = .idle 141 17 ∧
    (after .falseStart { held 3 30 with
      access := .empty, normal := [], decoder := .assembling ⟨.hold, 7, [0x3B], some 4, false⟩ }).counters.broken = 1 ∧
    (after .falseStart (held 3 30)).monitor = .idle 36 4 := by decide

/-- The Line Receiver in each of its conditions, and the positions of its table (R99 to R103). -/
theorem test_meets_ReceiverTakesASample :
    State.reset.receiver = .recovering ∧ online.receiver = .searching ∧ online.monitor.isStuck = false ∧
    (∀ elapsed age, online.monitor = .idle elapsed age → elapsed / 8 ≤ age) ∧ online.isDriving = false ∧
    ({ online with receiver := .starting 5 [.dominant, .recessive] } : State).isDriving = false ∧
    (2 ≤ [Level.dominant, .recessive, .dominant].count .dominant) ∧
    ([Level.dominant, .recessive, .recessive].count .dominant ≤ 1) ∧
    (∀ j, j < 8 → (0x80 : Byte).getLsbD j =
      ((List.replicate 7 Level.dominant ++ [.recessive, .dominant])[j]? == some .recessive)) := by
  refine ⟨by decide, by decide, by decide, fun e a h => ?_, by decide⟩
  obtain ⟨rfl, rfl⟩ : 80 = e ∧ 10 = a := by simpa [online] using h
  decide

theorem test_meets_TickTakesASample :
    online.inReset = false ∧ online.AccessFollows ∧ (advanceClocks online).dueEvents online.presenceCrosses = [.sample] ∧
    (∀ elapsed age, online.monitor = .idle elapsed age → age < 43 ∨ online.access ≠ .slotWait ∧
      online.access ≠ .openWait) ∧
    (∀ r, online.receiver = .receiving r → r.bit = 10 → r.point < 8) ∧
    ¬ BeginsBetween 10 ((80 + 1) / 8) (agedTo 81 10 10 online) ∧
    BeginsBetween 16 ((135 + 1) / 8) (agedTo 136 16 17 (held 16 135)) ∧
    ({ online with run := some 87 } : State).longMark = false ∧
    ({ online with run := some 879, longMark := true, monitor := .busy } : State).isDriving = false := by
  refine ⟨by decide, by decide, by decide, fun e a h => ?_, fun r h => by simp [online] at h, by decide⟩
  obtain ⟨rfl, rfl⟩ : 80 = e ∧ 10 = a := by simpa [online] using h
  decide

/-- `s` with the counts of its own entry set to stand a given time before their moments. -/
def nearly (own : OwnEntry → OwnEntry) (s : State := online) : State := { s with own := own s.own }

/-- What a tick on `s` finds due. -/
def dueIn (s : State) : List TickEvent := (advanceClocks s).dueEvents s.presenceCrosses

/-- `online` with one claim in its table. -/
def alone (claim : Claim) : State :=
  { online with
    table := some { key := 254, want := .none, gen := 1, claim := claim } :: List.replicate 15 none }

/-- A peer whose age is `left` short of the timeout. -/
def agedPeer (left : Nat) : Peer := { age := online.silenceTimeout - left, joining := false, frames := 1 }

/-- Each event comes due alone beside the sample in the tick that reaches its moment (R8, R16, R64, R70, R72, R75,
R152), and claim timers not while the line is STUCK (R9). -/
theorem test_meets_TickTakesTheEventsOfItsMoment :
    sampleTime online.rate = 32 ∧ online.AccessFollows ∧ online.inReset = false ∧ dueIn online = [.sample] ∧
    dueIn (alone (.asking (some 32))) = [.sample, .claim 254] ∧ dueIn (alone (.asking (some 33))) = [.sample] ∧
    dueIn (alone (.peerAsking 7 32)) = [.sample, .claim 254] ∧
    dueIn { alone (.asking (some 32)) with monitor := .stuck 0 } = [.sample] ∧
    dueIn { online with roster := (List.replicate 32 none).set 31 (some (agedPeer 32)) } = [.sample, .peer 31] ∧
    dueIn { online with roster := (List.replicate 32 none).set 31 (some (agedPeer 33)) } = [.sample] ∧
    dueIn (nearly fun o => { o with presence := some (online.presencePeriod - 32) }) = [.sample, .presence] ∧
    dueIn (nearly fun o => { o with presence := some (online.presencePeriod - 33) }) = [.sample] ∧
    dueIn (nearly fun o => { o with silence := some (online.halfSilence - 32) }) = [.sample, .silence] ∧
    dueIn (nearly (fun o => { o with listen := some 32 }) listening) = [.sample, .listen] ∧
    dueIn { online with station := .leaving, leaveLimit := some 32 } = [.sample, .leave] := by decide

/-- The presence count requests its PRESENCE in the tick that reaches T_s/4, and not in the tick before (R70). -/
theorem test_presence_count_fires_in_its_tick :
    let short (left : Nat) : State :=
      { nearly (fun o => { o with presence := some (online.presencePeriod - left) }) with
        normal := [], access := .empty }
    (tick (short 64)).normal = [] ∧ (tick (short 64)).own.presence = some (online.presencePeriod - 32) ∧
    dueIn (short 64) = [.sample] ∧ dueIn (short 32) = [.sample, .presence] ∧
    (fireEvent .presence (advanceClocks (short 32))).normal = [.presence false] := by decide

/-- A station that waits on an open line has begun within the tick (R130, log 9), and one whose only order is a lapsed
ASK has nothing to begin. -/
theorem test_meets_TickTakesTheEventsOfItsMoment_on_an_open_line :
    let waits : State := { online with monitor := .idle 344 43, access := .openWait }
    waits.Composes (.normal (.ask 3)) (.ask 3) ∧ (tick waits).isDriving = true ∧
    (tick waits).normal = [.presence false] ∧
    { waits with urgent := [.hold 5] }.Composes (.urgent (.hold 5)) (.hold 5 255) ∧
    (∀ c, ¬ { waits with normal := [.ask 1] }.Composes (.normal (.ask 1)) c) ∧
    (tick { waits with normal := [.ask 1] }).access = .empty := by
  refine ⟨⟨⟨entryOf 3, none, by decide, by decide⟩, rfl⟩, by decide, by decide, ⟨entryOf 5, by decide, rfl⟩, ?_,
    by decide⟩
  rintro c ⟨⟨e, t, h, ht⟩, _⟩
  obtain rfl : entryOf 1 = e := by simpa [entryOf, State.entry, findEntry, online, places] using h
  simp [entryOf, State.entry, findEntry, online, places] at ht

/-- The line held dominant for 11 and for 110 bit times, sample by sample (R111, R112). -/
theorem test_long_and_stuck_runs :
    (measureRun .dominant { online with run := some 87, monitor := .busy }).counters.longDominant = 1 ∧
    (measureRun .dominant { online with run := some 879, longMark := true, monitor := .busy }).monitor = .stuck 0 :=
  by decide

/-- A frame whose last stop bit the receiver takes late completes; the own drive has no further start bit
(R102, R137, R140). -/
theorem test_late_stop_bit_is_no_drive_fault :
    startOverdue { driving (.normal (.ask 3)) (.ask 3) with
      access := .driving { order := .normal (.ask 3), frame := { source := 6, body := .ask 3 }, driven := 270
                           checked := 33 } } =
    { driving (.normal (.ask 3)) (.ask 3) with
      access := .driving { order := .normal (.ask 3), frame := { source := 6, body := .ask 3 }, driven := 270
                           checked := 33 } } := by decide

/-- The attempt of `driving` after `n` samples of its first start bit, none of them read dominant. -/
def unread (n : Nat) : State := { driving (.normal (.ask 3)) (.ask 3) with
  monitor := .idle 136 17
  access := .driving { order := .normal (.ask 3), frame := { source := 6, body := .ask 3 }, driven := n
                       checked := 0 } }

/-- TXD in the start bit of character 0 and in its first data bit (R98, R136). -/
theorem test_own_level_while_driving :
    (unread 0).ownLevel = .dominant ∧ (unread 7).ownLevel = .dominant ∧ (unread 8).ownLevel = .recessive ∧
    (unread 264).ownLevel = .recessive ∧ online.ownLevel = .recessive := by decide

/-- A verdict that comes after own point 6 finds the start bit lost, and one at own point 6 or before does not
(R137). -/
theorem test_verdicts_after_own_point_six :
    (after .falseStart (unread 3)).isDriving = false ∧
    (after .falseStart (unread 3)).counters.driveFaults = 1 ∧
    (after (.startBitVerified false) (unread 1)).isDriving = false ∧
    (after (.startBitVerified false) (unread 1)).counters.driveFaults = 1 ∧
    (after (.startBitVerified false) (unread 1)).monitor = .busy ∧
    (after (.startBitVerified false) (unread 0)).isDriving = true ∧
    (after .falseStart (unread 0)).counters.driveFaults = 1 := by decide

/-- A late stop bit that reads dominant at own point 6 of the next start bit is a yield (log 27). -/
theorem test_late_stop_bit_yields :
    (samplePoint { unread 93 with
      monitor := .busy, run := some 1, line := [.held]
      receiver := .receiving { bit := 10, point := 5, mids := [.dominant, .dominant], value := none
                               bits := List.replicate 9 .dominant, noisy := false }
      access := .driving { order := .normal (.ask 3), frame := { source := 6, body := .ask 3 }, driven := 93
                           checked := 10 } }).counters.yields = 1 := by decide

/-- A candidate judged false late in the own stop bit is no drive fault; one in the own start bit is (R137). -/
theorem test_false_start_is_a_drive_fault_in_the_start_bit_alone :
    let at' (n : Nat) : State := { driving (.normal (.ask 3)) (.ask 3) with
      access := .driving { order := .normal (.ask 3), frame := { source := 6, body := .ask 3 }, driven := n
                           checked := 11 * ((n + 7) / 88) } }
    (at' 86).drivesStart = false ∧ (at' 89).drivesStart = false ∧ (at' 90).drivesStart = true ∧
    (at' 6).drivesStart = true := by decide

/-! ### Arrivals -/

theorem test_meets_arrivals :
    online.HearsAFrame ∧ online.DispatchesAll ∧ online.Foreign 7 ∧ online.Foreign 31 ∧ online.config = some config ∧
    online.entry 6 = none ∧ online.ownAddr ≠ 0 ∧ online.normal.length < 21 ∧ online.LifeLaw ∧ online.TableLaw :=
  ⟨by decide, by decide, by decide, by decide, by decide, by decide, by decide, by decide,
   test_online_keeps_the_life_law, test_online_keeps_the_table_law⟩

theorem test_meets_AskArrivalByEntryState :
    (entryOf 1).claim = .free ∧ (entryOf 2).claim = .peerAsking 7 (ms 42) ∧ (entryOf 254).claim = .theirs 7 ∧
    (entryOf 3).claim = .asking none ∧ (entryOf 3).want = .once ∧ (entryOf 4).claim = .asking (some (ms 21)) ∧
    (entryOf 5).claim = .mine ∧ online.station.transmits = true := by decide

theorem test_meets_SplitGoesToTheLowerAddress :
    online.station = .active ∧ online.EntryAt 4 (entryOf 5) ∧ (entryOf 5).claim = .mine ∧
    online.Foreign 7 ∧ online.ownAddr.toNat < (7 : Addr).toNat ∧ online.Foreign 5 ∧
    (5 : Addr).toNat < online.ownAddr.toNat := ⟨rfl, online_at _ _ (by decide), by decide⟩

theorem test_meets_HoldsNone : online.HoldsNone 5 ∧ online.HoldsNone 8 := by
  constructor <;> intro e h <;> rcases online_entries h with rfl | rfl | rfl | rfl | rfl | rfl <;> decide

theorem test_meets_PresenceArrivalReconcilesOrDeparts :
    (List.range 16).length ≤ 16 ∧
    (∀ x ∈ [((1 : Byte), (0 : Byte)), (254, 255)], 1 ≤ x.1.toNat ∧ x.1.toNat ≤ 254) ∧
    ([((1 : Byte), (0 : Byte)), (254, 255)].map Prod.fst).Nodup := by simp

/-- A joining PRESENCE of 7 that lists nothing frees key 254; with a waiting ask there the answer and the ASK order
share the moment. -/
def waitingAt254 : State :=
  { online with
    table := some { key := 254, want := .wait, gen := 4, claim := .theirs 7 } :: List.replicate 15 none
    normal := [] }

theorem test_meets_PresenceArrivalReconcilesOrDeparts_when_joining :
    online.station = .active ∧ restartedAsks online 7 [] = [] ∧ online.normal.length + 1 + 0 ≤ 21 ∧
    online.normal.any NormalOrder.isPresence = true ∧
    restartedAsks waitingAt254 7 [] = [.ask 254] ∧ waitingAt254.normal.any NormalOrder.isPresence = false ∧
    waitingAt254.normal.length + 1 + [NormalOrder.ask 254].length ≤ 21 := by decide

/-- A reconciliation with a key listed twice at a MINE entry of the lower address and at an entry that is not the
station's, one at an ASKING entry, and an unlisted entry of the sender (R53, R54, R57). -/
theorem test_meets_ReconciliationTakesThePairsThenFrees :
    online.TableLaw ∧ online.normal.length + (restartedAsks online 7 [(5, 3), (5, 9)]).length ≤ 21 ∧
    unlistedKeys online 7 [(5, 3), (5, 9)] = [254] ∧ unlistedKeys online 7 [(254, 4)] = [] ∧
    pairNotices 6 7 [(5, 3), (2, 1), (2, 1), (2, 2), (3, 1), (99, 1)] online.entry =
      [.reasserted 5 0, .taken 2 7 1, .taken 2 7 2, .refused 3 .peerHeld 7] ∧
    pairNotices 8 7 [(5, 3), (5, 3), (5, 4)] online.entry = [.lost 5 .split 7, .taken 5 7 4] ∧
    keptOrders online [(3, 1)] = [.presence false] :=
  ⟨test_online_keeps_the_table_law, by decide⟩

theorem test_meets_OrphanReleaseFreesEveryClaimOfAPeer :
    online.TableLaw ∧ online.station = .active ∧ online.normal.length + 2 ≤ 21 ∧ listening.station ≠ .active :=
  ⟨test_online_keeps_the_table_law, by decide⟩

theorem test_meets_PostArrivalIsFilteredAndDelivered :
    (31 : Byte).toNat ≤ 31 ∧ (List.replicate 16 (0 : Byte)).length ≤ 16 ∧ (6 : Byte) = addrByte online.ownAddr ∧
    (∃ c, online.config = some c ∧ c.broadcast = true) ∧
    ¬ (∃ c, ({ online with config := some { config with broadcast := false } } : State).config = some c ∧
      c.broadcast = true) := by
  refine ⟨by decide, by decide, by decide, ⟨config, rfl, rfl⟩, ?_⟩
  rintro ⟨c, h, hb⟩
  obtain rfl : { config with broadcast := false } = c := by simpa using h
  simp at hb

theorem test_meets_AddressClashMarksOrMutes :
    ({ State.reset with monitor := .idle 0 0 } : State).HearsAFrame ∧ State.reset.station = .unconfigured ∧
    online.HearsAFrame ∧ online.station.transmits = true ∧
    ({ online with station := .mute, decoder := .skipping } : State).HearsAFrame := by decide

theorem test_meets_EntryToMuteDropsEverything : online.TableLaw ∧ listening.TableLaw :=
  ⟨test_online_keeps_the_table_law, test_listening_keeps_the_table_law⟩

/-! ### Getting onto the line -/

theorem test_meets_RankAndSlot :
    online.ownAddr ≠ 0 ∧ online.lastSource = 0 ∧ ({ online with lastSource := 6 } : State).lastSource = online.ownAddr ∧
    State.reset.ownAddr ≠ 0 ∧ State.reset.lastSource = online.lastSource ∧ State.reset.ownAddr ≠ online.ownAddr := by
  decide

theorem test_meets_AttemptBeginsWithTheHeadOrder :
    online.inReset = false ∧ online.monitor = .idle 80 10 ∧ 8 * 10 ≤ 80 ∧ online.receiver.isStarting = false ∧
    online.station.transmits = true ∧ online.access = .slotWait ∧ 10 < online.slot ∧
    online.normal = .ask 3 :: [.presence false] ∧ online.Composes (.normal (.ask 3)) (.ask 3) ∧
    online.Composes (.urgent (.hold 5)) (.hold 5 255) ∧
    (∀ c, ¬ online.Composes (.urgent (.object 1)) c) ∧ (∀ c, ¬ online.Composes (.normal (.ask 1)) c) := by
  refine ⟨rfl, rfl, by decide, rfl, rfl, rfl, by decide, rfl, ⟨⟨entryOf 3, none, by decide, by decide⟩, rfl⟩,
    ⟨entryOf 5, by decide, rfl⟩, ?_, ?_⟩
  · rintro c ⟨e, h, h' | h'⟩
    · obtain rfl : entryOf 1 = e := by simpa [entryOf, State.entry, findEntry, online, places] using h
      exact absurd h'.1 (by decide)
    · obtain rfl : entryOf 1 = e := by simpa [entryOf, State.entry, findEntry, online, places] using h
      obtain ⟨⟨t, ht⟩, _⟩ := h'
      simp [entryOf, State.entry, findEntry, online, places] at ht
  · rintro c ⟨⟨e, t, h, ht⟩, _⟩
    obtain rfl : entryOf 1 = e := by simpa [entryOf, State.entry, findEntry, online, places] using h
    simp [entryOf, State.entry, findEntry, online, places] at ht

/-- The station in SLOT_WAIT, `n` bit times before its slot. -/
def atSlot (n : Nat) : State :=
  { online with monitor := .idle (8 * (online.slot - n)) (online.slot - n), access := .slotWait }

theorem test_meets_AttemptBegins_on_an_open_line :
    ({ online with monitor := .idle 344 43, access := .openWait } : State).access = .openWait ∧ 8 * 43 ≤ 344 ∧
    (atSlot 0).access = .slotWait ∧ (atSlot 0).slot ≤ (atSlot 0).slot ∧ (atSlot 0).slot = online.slot := by
  decide

/-- At its slot or after it, a station in SLOT_WAIT begins on the open line; one bit time before, at its slot
(R130, log 10). -/
theorem test_reached_slot_begins_on_the_open_line :
    (after .attemptBegin (atSlot 0)).monitor = .idle 344 43 ∧ (after .attemptBegin (atSlot 0)).isDriving = true ∧
    (after .attemptBegin (atSlot 1)).monitor = .idle (8 * online.slot) online.slot ∧
    (after .attemptBegin (atSlot 1)).isDriving = true := by decide

theorem test_meets_ReadbackMatchesYieldsOrFaults_bit_by_bit :
    ({ source := 6, body := .ask 3 } : Frame).levelAt 0 = .dominant ∧
    ({ source := 6, body := .ask 3 } : Frame).levelAt 1 = .recessive ∧
    (unread 6).receiver.awaitsStart = true ∧ (unread 6).monitor.isStuck = false ∧ toVerdict (unread 3) = 6 ∧
    0 ≤ 11 * (6 / 88) ∧ 6 / 88 < ({ source := 6, body := .ask 3 } : Frame).encode.length ∧
    (∃ i, i < 6 ∧ 1 ≤ i ∧ (3 + i) % 88 = 6) ∧ ¬ (∃ i, i < 6 ∧ 1 ≤ i ∧ (0 + i) % 88 = 6) := by
  refine ⟨by decide, by decide, by decide, by decide, by decide, by decide, by decide, ⟨3, by decide⟩, ?_⟩
  rintro ⟨i, hi, _, h⟩
  omega

/-- The own start bit is lost at own point 6, and the bits read as driven are checked off (R137). -/
theorem test_readback :
    (startOverdue (unread 6)).counters.driveFaults = 1 ∧
    (handBit .dominant (unread 5)).access = .driving
      { order := .normal (.ask 3), frame := { source := 6, body := .ask 3 }, driven := 5, checked := 1 } ∧
    (handBit .recessive (unread 5)).counters.driveFaults = 1 := by decide

theorem test_meets_ReadbackMatchesYieldsOrFaults :
    (driving (.urgent (.hold 5)) (.hold 5 255)).TakesBack (.urgent (.hold 5)) ∧
    ¬ (driving (.normal (.presence false)) (.presence false false [])).TakesBack (.normal (.presence false)) ∧
    (driving (.urgent (.hold 5)) (.hold 5 255)).monitor = .busy ∧
    (driving (.urgent (.hold 5)) (.hold 5 255)).receiver.awaitsStart = true ∧
    ({ driving (.urgent (.hold 5)) (.hold 5 255) with receiver := .recovering } : State).receiver.awaitsStart = false ∧
    0 + 1 < config.retryLimit.toNat ∧ config.retryLimit.toNat ≤ 1 + 1 := by
  refine ⟨⟨by decide, by decide, entryOf 5, by decide, by decide⟩, ?_, by decide⟩
  intro h
  exact h false (by decide)

theorem test_meets_AttemptCompletesAsAnOwnArrival :
    (driving (.normal (.ask 3)) (.ask 3)).monitor.timersRun = true ∧
    (driving (.normal (.ask 3)) (.ask 3)).own.silence = some 0 ∧
    (driving (.normal (.ask 3)) (.ask 3)).EntryAt 2 (entryOf 3) ∧ (entryOf 3).claim = .asking none ∧
    (driving (.normal (.ask 1)) (.ask 1)).EntryAt 0 (entryOf 1) ∧ (entryOf 1).claim = .free :=
  ⟨by decide, by decide, online_at _ _ (by decide), by decide, online_at _ _ (by decide), by decide⟩

/-! ### Timers -/

theorem test_meets_ClaimTimerExpiryGrantsOrFrees :
    online.EntryAt 3 (entryOf 4) ∧ (entryOf 4).claim = .asking (some (ms 21)) ∧ online.EntryAt 1 (entryOf 2) ∧
    (entryOf 2).claim = .peerAsking 7 (ms 42) ∧ online.monitor.timersRun = true ∧ online.LifeLaw ∧
    ({ online with monitor := .stuck 0 } : State).LifeLaw ∧
    ({ online with monitor := .stuck 0 } : State).monitor.timersRun = false :=
  ⟨online_at _ _ (by decide), by decide, online_at _ _ (by decide), by decide, by decide,
   test_online_keeps_the_life_law, test_online_keeps_the_life_law, by decide⟩

theorem test_meets_ClocksAdvanceAndPause :
    State.reset.monitor = .settling 0 ∧ ({ online with monitor := .stuck 1 } : State).monitor = .stuck 1 ∧
    online.monitor = .idle 80 10 ∧ online.presenceCrosses = false := by decide

theorem test_meets_ListenExpiryMakesTheStationActive :
    listening.station = .listening ∧ listening.own.listen = some (ms 128) ∧ listening.monitor.timersRun = true ∧
    listening.TableLaw ∧
    listening.normal.length +
      (listening.keysAscending.filter fun k => listening.claimOf k == some (.asking none)).length ≤ 21 :=
  ⟨by decide, by decide, by decide, test_listening_keeps_the_table_law, by decide⟩

theorem test_meets_LeaveLimitEntersOffline :
    ({ online with station := .leaving, leaveLimit := some 0 } : State).leaveLimit.isSome = true ∧
    ({ online with station := .leaving, leaveLimit := some 0 } : State).inReset = false := by decide

/-- A station that hears the line before ESTABLISH. -/
def unconfigured : State := { State.reset with receiver := .searching, monitor := .idle 0 0 }

theorem test_meets_PeerIsRefreshedOrDeclaredSilent_by_station :
    unconfigured.HearsAFrame ∧ unconfigured.Foreign 7 ∧ unconfigured.station = .unconfigured ∧
    unconfigured.config = none ∧ unconfigured.table = List.replicate 16 none ∧
    ({ online with station := .offline } : State).HearsAFrame ∧ (31 : Byte) ≠ addrByte online.ownAddr := by decide

theorem test_meets_PeerIsRefreshedOrDeclaredSilent :
    online.peer 7 = some { age := 0, joining := false, frames := 1 } ∧ online.peer 8 = none ∧
    online.inReset = false ∧ online.AccessFollows := by decide

theorem test_meets_PresencePeriodRequestsAPresence :
    online.own.presence = some 0 ∧ 0 < ms (4 * config.silenceUnit.toNat) ∧ online.config = some config ∧
    online.station = .active := by decide

theorem test_meets_SilenceCountDropsTheOwnClaims :
    online.own.silence = some 0 ∧ online.station = .active ∧ online.TableLaw ∧ online.LaneLaw ∧
    listening.station ≠ .active ∧ listening.AccessFollows :=
  ⟨by decide, by decide, test_online_keeps_the_table_law, test_online_keeps_the_lane_law, by decide⟩

/-- A step from the state in which every law holds; see the theorems named online_keeps. -/
theorem test_meets_the_laws_that_steps_keep : ∃ t, step online = .next t := ⟨_, rfl⟩

end Sys2Proof.Tests
end

/-! WATCH and UNWATCH past the checks of R10: what each does to the Claim Table (R11 to R13). -/

namespace Sys2Proof.Machine

/-! ### The checks of R10 -/

/-- The keys 1..254 pass the key check (R1, R10). -/
theorem validKey_of_range {k : Byte} (low : 1 ≤ k.toNat) (high : k.toNat ≤ 254) : validKey k = true := by
  have hzero : k ≠ 0 := by rintro rfl; simp at low
  have htop : k ≠ 255 := by rintro rfl; simp at high
  simp only [validKey, Bool.and_eq_true, bne_iff_ne]
  exact ⟨hzero, htop⟩

/-- WATCH, UNWATCH and QUERY are accepted everywhere but in UNCONFIGURED and OFFLINE (R10, R147). -/
theorem StationState.takesWatch_iff (st : StationState) :
    st.takesWatch = true ↔ st ≠ .unconfigured ∧ st ≠ .offline := by
  cases st <;> decide

/-! ### The rows as commands -/

/-- WATCH of one key, taken on an idle port, is the owner's command (R12, R170). -/
theorem exec_watch_key {s : State} (h : s.TakesCommands) (k : Byte) :
    exec (.watch [k]) s = .next (refreshAccess (watchCommand k (s.clocked 2))) := by
  have hrow : exec (.watch [k]) s = live (commandTransaction (cmdWatch :: [k])) s := rfl
  rw [hrow, live_eq h.1.1, commandTransaction_taken h _ _ (by simp), ownerTakes_watch]
  rfl

/-- UNWATCH of one key, taken on an idle port, is the owner's command (R13, R170). -/
theorem exec_unwatch_key {s : State} (h : s.TakesCommands) (k : Byte) :
    exec (.unwatch [k]) s = .next (refreshAccess (unwatchCommand k (s.clocked 2))) := by
  have hrow : exec (.unwatch [k]) s = live (commandTransaction (cmdUnwatch :: [k])) s := rfl
  rw [hrow, live_eq h.1.1, commandTransaction_taken h _ _ (by simp), ownerTakes_unwatch]
  rfl

/-! ### The table -/

/-- The fields entry number and state of a result on an entry at its number (R182). -/
theorem State.EntryAt.fields {s : State} {n : Nat} {e : Entry} (h : s.EntryAt n e) :
    s.entryFields e.key = [natByte n, e.claim.code] := by
  simp only [State.entryFields, h.number, h.entry]

/-- Vacating the key of an entry empties its place and no other (R13). -/
theorem State.EntryAt.vacate {s : State} {n : Nat} {e : Entry} (h : s.EntryAt n e) :
    vacateEntry e.key s.table = s.table.set n none := by
  obtain ⟨hn, honly⟩ := h
  refine List.ext_getElem? fun m => ?_
  rw [vacateEntry, List.getElem?_map]
  by_cases hmn : m = n
  · subst hmn
    have hlt : m < s.table.length := (List.getElem?_eq_some_iff.mp hn).1
    rw [hn, List.getElem?_set_self hlt]
    simp
  · rw [List.getElem?_set_ne (Ne.symm hmn)]
    rcases hm : s.table[m]? with _ | _ | f
    · rfl
    · rfl
    · have hf : f.key ≠ e.key := fun hk => hmn (honly m f hm hk)
      simp [hf]

/-- A key without an entry is carried by no place of the table (R1). -/
theorem key_ne_of_entry_none {s : State} {k : Byte} (h : s.entry k = none) {f : Entry}
    (hf : some f ∈ s.table) : f.key ≠ k := fun hk => by
  have hfound := (findEntry_isSome k s.table).mpr ((mem_tableKeys k s.table).mpr ⟨f, hf, hk⟩)
  rw [show findEntry k s.table = none from h] at hfound
  exact absurd hfound (by simp)

/-- The entry allocated for a key without one stands at the place it took, and alone carries the key
(R1, R11). -/
theorem entryAt_allocated {s : State} {k : Byte} {pre post : List (Option Entry)}
    (habsent : s.entry k = none) (ht : s.table = pre ++ none :: post) :
    ({ s with table := pre ++ some (newEntry k) :: post } : State).EntryAt pre.length (newEntry k) := by
  refine ⟨by simp, fun m f hm hk => ?_⟩
  by_contra hne
  have hold : s.table[m]? = some (some f) := by
    rw [← hm, ht]
    show (pre ++ none :: post)[m]? = (pre ++ some (newEntry k) :: post)[m]?
    rcases Nat.lt_or_gt_of_ne hne with hlt | hgt
    · rw [List.getElem?_append_left hlt, List.getElem?_append_left hlt]
    · rw [List.getElem?_append_right hgt.le, List.getElem?_append_right hgt.le]
      obtain ⟨j, hj⟩ := Nat.exists_eq_add_of_lt (Nat.sub_pos_of_lt hgt)
      rw [hj, List.getElem?_cons_succ, List.getElem?_cons_succ]
  exact key_ne_of_entry_none habsent (List.mem_of_getElem? hold) hk

/-! ### Something stands for the key -/

/-- The frame in the attempt slot is one for the key: its ASK, or an order of the urgent lane (R13, R14). -/
theorem frameInAttempt_ne_zero_iff (s : State) (k : Byte) :
    s.frameInAttempt k ≠ 0 ↔
      s.slotOrder = some (.normal (.ask k)) ∨ ∃ o, s.slotOrder = some (.urgent o) ∧ o.key = k := by
  rw [State.frameInAttempt]
  rcases s.slotOrder with _ | (_ | _ | _) | (_ | _ | _) <;> simp [UrgentOrder.key]

/-- The ASK order for the key is the one that names it (R115). -/
theorem NormalOrder.isAskOf_iff (k : Byte) (o : NormalOrder) : o.isAskOf k = true ↔ o = .ask k := by
  cases o <;> simp [NormalOrder.isAskOf]

/-- UNWATCH finds the entry busy: MINE or ASKING, with want WAIT, with an order in a lane or with its frame
in the attempt slot (R13). -/
theorem busyKey_iff (s : State) (k : Byte) (e : Entry) :
    s.busyKey k e = true ↔
      e.claim = .mine ∨ (∃ t, e.claim = .asking t) ∨ e.want = .wait ∨
        (∃ o ∈ s.urgent, o.key = k) ∨ .ask k ∈ s.normal ∨ s.slotOrder = some (.normal (.ask k)) ∨
        ∃ o, s.slotOrder = some (.urgent o) ∧ o.key = k := by
  have horder : s.hasOrder k = true ↔ (∃ o ∈ s.urgent, o.key = k) ∨ .ask k ∈ s.normal ∨
      s.frameInAttempt k ≠ 0 := by
    simp [State.hasOrder, NormalOrder.isAskOf_iff, or_assoc]
  rw [← frameInAttempt_ne_zero_iff, ← horder, State.busyKey]
  cases e.claim <;> simp

/-! ### The commands past the checks -/

section PastTheChecks

variable {s : State} {k : Byte} (hst : s.station.takesWatch = true) (hk : validKey k = true)
include hst hk

/-- WATCH of a key with an entry answers DONE and leaves the table (R12). -/
theorem watchCommand_watched {e : Entry} (he : s.entry k = some e) :
    watchCommand k s = answerKey .done cmdWatch k s := by
  simp [watchCommand, hst, hk, he]

/-- WATCH of a key without an entry, with every place taken (R11, R12). -/
theorem watchCommand_full (he : s.entry k = none) (hfull : ∀ x ∈ s.table, x.isSome = true) :
    watchCommand k s = answer .tableFull cmdWatch [k] s := by
  simp [watchCommand, hst, hk, he, (allocate_none (newEntry k) s.table).mpr hfull]

/-- WATCH of a key without an entry takes the lowest VACANT place (R11, R12). -/
theorem watchCommand_allocates (he : s.entry k = none) {pre post : List (Option Entry)}
    (ht : s.table = pre ++ none :: post) (hpre : ∀ x ∈ pre, x.isSome = true) :
    watchCommand k s =
      answer .done cmdWatch [k, natByte pre.length, 0]
        { s with table := pre ++ some (newEntry k) :: post } := by
  have hfields : ({ s with table := pre ++ some (newEntry k) :: post } : State).entryFields k =
      [natByte pre.length, 0] := (entryAt_allocated he ht).fields
  have halloc : allocate (newEntry k) s.table = some (pre ++ some (newEntry k) :: post) :=
    ht ▸ allocate_at (newEntry k) pre post hpre
  simp [watchCommand, hst, hk, he, halloc, answerKey, hfields]

/-- UNWATCH of a key without an entry (R13). -/
theorem unwatchCommand_absent (he : s.entry k = none) :
    unwatchCommand k s = answer .notWatched cmdUnwatch [k] s := by
  simp [unwatchCommand, hst, hk, he]

/-- UNWATCH of a busy entry changes nothing (R13). -/
theorem unwatchCommand_busy {e : Entry} (he : s.entry k = some e) (hb : s.busyKey k e = true) :
    unwatchCommand k s = answer .busyKey cmdUnwatch [k] s := by
  simp [unwatchCommand, hst, hk, he, hb]

/-- UNWATCH of an idle entry vacates it (R13). -/
theorem unwatchCommand_idle {e : Entry} (he : s.entry k = some e) (hb : s.busyKey k e = false) :
    unwatchCommand k s = answer .done cmdUnwatch [k] { s with table := vacateEntry k s.table } := by
  simp [unwatchCommand, hst, hk, he, hb]

end PastTheChecks

/-! ### The statement -/

/-- Settles O18: past the checks of R10 each case of the statement is one equation of WATCH or UNWATCH, and
no case touches the lanes or the access state, so the Access Engine's condition stands. -/
theorem watchAndUnwatchKeepTheTable : Obligations.WatchAndUnwatchKeepTheTable := by
  intro s htakes hfollows hunconfigured hoffline
  have hst : (s.clocked 2).station.takesWatch = true :=
    (StationState.takesWatch_iff s.station).mpr ⟨hunconfigured, hoffline⟩
  refine ⟨fun n e hat low high => ?_, fun k low high habsent => ?_⟩
  · have hk := validKey_of_range low high
    have he : (s.clocked 2).entry e.key = some e := hat.entry
    have hbusy := busyKey_iff (s.clocked 2) e.key e
    refine ⟨?_, fun hb => ?_, fun hidle => ?_⟩
    · have hfields : (s.clocked 2).entryFields e.key = [natByte n, e.claim.code] := hat.fields
      rw [exec_watch_key htakes, watchCommand_watched hst hk he, answerKey, hfields]
      exact hfollows.next_eq rfl rfl rfl rfl
    · rw [exec_unwatch_key htakes, unwatchCommand_busy hst hk he (hbusy.mpr hb)]
      exact hfollows.next_eq rfl rfl rfl rfl
    · have hfree : (s.clocked 2).busyKey e.key e = false := Bool.eq_false_iff.mpr (mt hbusy.mp hidle)
      have hvacate : vacateEntry e.key (s.clocked 2).table = s.table.set n none := hat.vacate
      rw [exec_unwatch_key htakes, unwatchCommand_idle hst hk he hfree, hvacate]
      exact hfollows.next_eq rfl rfl rfl rfl
  · have hk := validKey_of_range low high
    have hnone : (s.clocked 2).entry k = none := habsent
    refine ⟨?_, fun hfull => ?_, fun pre post ht hpre => ?_⟩
    · rw [exec_unwatch_key htakes, unwatchCommand_absent hst hk hnone]
      exact hfollows.next_eq rfl rfl rfl rfl
    · rw [exec_watch_key htakes, watchCommand_full hst hk hnone hfull]
      exact hfollows.next_eq rfl rfl rfl rfl
    · rw [exec_watch_key htakes, watchCommand_allocates hst hk hnone ht hpre]
      exact hfollows.next_eq rfl rfl rfl rfl

end Sys2Proof.Machine

/-! The Claim Table at a known place, foreign frames on their way to the Claim Engine, and what the Claim Engine
does with asks, objections, holds and expired claim timers (R19, R25 to R37). -/

namespace Sys2Proof.Machine

/-! ### An entry at its number -/

/-- A state with the same table has the entry at the same number. -/
theorem State.EntryAt.congr {s t : State} {n : Nat} {e : Entry} (h : s.EntryAt n e)
    (ht : t.table = s.table) : t.EntryAt n e := by
  simpa only [State.EntryAt, ht] using h

/-- Of two entries put in one place the later stays. -/
@[simp] theorem putEntry_putEntry (n : Nat) (d e : Entry) (s : State) :
    (s.putEntry n d).putEntry n e = s.putEntry n e := by
  simp [State.putEntry]

section AtItsNumber

variable {s : State} {n : Nat} {e : Entry} (h : s.EntryAt n e)
include h

/-- Moving the entry at its number to a state (R2). -/
theorem setClaim_at (c : Claim) : setClaim e.key c s = s.putEntry n { e with claim := c } :=
  setEntry_at h _

/-- Moving the entry at its number to a state with a generation (R7). -/
theorem setClaimGen_at (c : Claim) (g : Byte) :
    setClaimGen e.key c g s = s.putEntry n { e with claim := c, gen := g } :=
  setEntry_at h _

/-- Setting the want of the entry at its number (R5). -/
theorem setWant_at (w : Want) : setWant e.key w s = s.putEntry n { e with want := w } :=
  setEntry_at h _

/-- The deferral of the entry at its number starts at 2·W (R8, R25). -/
theorem deferTo_at {c : Configuration} (hc : s.config = some c) (p : Addr) :
    deferTo e.key p s = s.putEntry n { e with claim := .peerAsking p (ms (2 * c.window.toNat)) } := by
  rw [deferTo, setClaim_at h, State.deferralTime, hc]

/-- A ONCE ask ends with REFUSED and want NONE, a waiting one stands (R26, R29, R35). -/
theorem refuseOnce_at (r : EndReason) (p : Addr) :
    refuseOnce e.key e.want r p s =
      if e.want = .once then (produce (.refused e.key r p) s).putEntry n { e with want := .none } else s := by
  rw [refuseOnce, setWant_at (h.congr (produce_table _ s))]

end AtItsNumber

/-! ### A foreign frame on its way to the Claim Engine -/

/-- A frame whose fields are in range has a length field in range (R85, R88). -/
theorem Frame.lengthInRange_of_inRange {f : Frame} (h : f.inRange = true) : f.lengthInRange = true := by
  obtain ⟨p, b⟩ := f
  cases b <;> simp_all [Frame.inRange, Frame.lengthInRange]

/-- Where the monitor hears the line, the last character of a frame leaves it IDLE with idle age 0 (R107). -/
theorem framePasses_eq_passed {s : State} (h : s.monitor.timersRun = true) : framePasses s = s.passed := by
  have hidle : s.monitor.characterEnds = .idle 0 0 := by
    cases hm : s.monitor <;> simp_all [Monitor.timersRun, Monitor.characterEnds]
  simp [framePasses, characterEnds, runEnds, State.passed, hidle]

/-- An intact foreign frame in range that is no clash is counted and reaches every block (R90, R94). -/
theorem arrival_reaches_allBlocks {s : State} {f : Frame} (noisy : Bool) (hears : s.Hears)
    (hall : s.DispatchesAll) (hrange : f.inRange = true) (hclash : s.isClash f = false) :
    live (arrival f noisy) s = .next (refreshAccess (allBlocks f (s.tookFrame f.source noisy))) := by
  obtain ⟨hreset, hdrive, hruns⟩ := hears
  obtain ⟨hunconfigured, hoffline⟩ := hall
  have hstuck : s.monitor.isStuck = false := by
    cases hm : s.monitor <;> simp_all [Monitor.timersRun, Monitor.isStuck]
  have hsettling : s.monitor.isSettling = false := by
    cases hm : s.monitor <;> simp_all [Monitor.timersRun, Monitor.isSettling]
  have htook : ({ countNoisy noisy (count .framesOk s.passed) with lastSource := f.source } : State) =
      s.tookFrame f.source noisy := by cases noisy <;> rfl
  have hforeign : foreignFrame f noisy s.passed = dispatch f (s.tookFrame f.source noisy) := by
    have hclash' : (s.tookFrame f.source noisy).isClash f = false := hclash
    simp [foreignFrame, htook, hclash']
  have hdispatch : dispatch f (s.tookFrame f.source noisy) = allBlocks f (s.tookFrame f.source noisy) := by
    have hstation : (s.tookFrame f.source noisy).station = s.station := rfl
    rw [dispatch, hstation]
    cases hs : s.station <;> simp_all
  rw [live_eq hreset, ← hdispatch, ← hforeign, ← framePasses_eq_passed hruns]
  simp [arrival, hdrive, hstuck, hsettling, hrange, Frame.lengthInRange_of_inRange hrange]

/-- A station that is foreign is not the own one (R93). -/
theorem State.Foreign.isOwn_false {s : State} {p : Addr} (h : s.Foreign p) : s.isOwn p = false := by
  simp [State.isOwn, h.2]

/-- Hearing a peer changes its Roster entry and the Notice Queue alone (R63). -/
theorem peerHeard_eq (p : Addr) (flag : Option Bool) (s : State) :
    peerHeard p flag s =
      { s with
        roster := (peerHeard p flag s).roster, notices := (peerHeard p flag s).notices
        counters := (peerHeard p flag s).counters } := by
  rw [peerHeard]
  split
  · rfl
  · rw [produce_eq]; rfl

@[simp] theorem heard_table (s : State) (p : Addr) (flag : Option Bool) (noisy : Bool) :
    (s.heard p flag noisy).table = s.table := by
  rw [State.heard, peerHeard_eq]; rfl
@[simp] theorem heard_config (s : State) (p : Addr) (flag : Option Bool) (noisy : Bool) :
    (s.heard p flag noisy).config = s.config := by
  rw [State.heard, peerHeard_eq]; rfl
@[simp] theorem heard_station (s : State) (p : Addr) (flag : Option Bool) (noisy : Bool) :
    (s.heard p flag noisy).station = s.station := by
  rw [State.heard, peerHeard_eq]; rfl
@[simp] theorem heard_urgent (s : State) (p : Addr) (flag : Option Bool) (noisy : Bool) :
    (s.heard p flag noisy).urgent = s.urgent := by
  rw [State.heard, peerHeard_eq]; rfl
@[simp] theorem heard_normal (s : State) (p : Addr) (flag : Option Bool) (noisy : Bool) :
    (s.heard p flag noisy).normal = s.normal := by
  rw [State.heard, peerHeard_eq]; rfl

/-- Hearing a frame leaves the entry of every key. -/
@[simp] theorem heard_entry (s : State) (p : Addr) (flag : Option Bool) (noisy : Bool) (k : Byte) :
    (s.heard p flag noisy).entry k = s.entry k := by
  rw [State.entry, State.entry, heard_table]

/-- Hearing a frame leaves every entry at its number. -/
theorem State.EntryAt.heard {s : State} {n : Nat} {e : Entry} (h : s.EntryAt n e) (p : Addr)
    (flag : Option Bool) (noisy : Bool) : (s.heard p flag noisy).EntryAt n e :=
  h.congr (heard_table s p flag noisy)

/-! ### The address bytes of an OBJECT -/

/-- A byte that carries an address gives it back (R79). -/
@[simp] theorem byteAddr_addrByte (a : Addr) : byteAddr (addrByte a) = a := by
  simp [byteAddr, addrByte]

/-- Bytes that carry addresses are alike only for one address. -/
theorem addrByte_inj {a b : Addr} : addrByte a = addrByte b ↔ a = b :=
  ⟨fun h => by simpa using congrArg byteAddr h, congrArg addrByte⟩

/-- Only address 0 is carried as 0. -/
theorem addrByte_eq_zero {a : Addr} : addrByte a = 0 ↔ a = 0 := addrByte_inj (b := 0)

/-- A byte that carries an address is at most 31 (R88). -/
theorem addrByte_le (a : Addr) : addrByte a ≤ 31 := by
  simp only [addrByte, BitVec.le_def, BitVec.toNat_setWidth]
  have := a.isLt
  have h31 : (31 : Byte).toNat = 31 := rfl
  omega

/-! ### Which evidence an OBJECT is -/

/-- An OBJECT that names no station is left unapplied (R28). -/
theorem claimObject_nobody (k r g : Byte) (s : State) : claimObject k 0 r g s = s := by
  simp [claimObject]

/-- An OBJECT with reason HELD is a HOLD of the station it names that is silent where it repeats what the entry
says (R29, R30, R53). -/
theorem claimObject_held {q : Addr} (hq : q ≠ 0) (k g : Byte) (s : State) :
    claimObject k (addrByte q) 1 g s = claimHold false q k g s := by
  rw [claimObject, if_neg (mt addrByte_eq_zero.mp hq), if_pos rfl]
  simp [claimObjectHeld, claimHold]

/-- An OBJECT with reason EARLIER_ASK is applied by the station it names (R28). -/
theorem claimObject_earlier {q : Addr} (hq : q ≠ 0) (k g : Byte) (s : State) :
    claimObject k (addrByte q) 2 g s = claimObjectEarlier q k g s := by
  rw [claimObject, if_neg (mt addrByte_eq_zero.mp hq), if_neg (by decide), byteAddr_addrByte]

/-! ### The arrivals of ASK, OBJECT and HOLD -/

section Arrivals

variable {s : State} {p : Addr} {k : Byte} (hears : s.HearsAFrame) (hall : s.DispatchesAll)
  (hp : s.Foreign p) (hk : validKey k = true)
include hears hall hp hk

/-- A peer ASK reaches the Claim Engine after the Presence Unit (R25, R94). -/
theorem exec_askArrival (noisy : Bool) :
    exec (.askArrival p k noisy) s = .next (refreshAccess (claimAsk p k (s.heard p none noisy))) :=
  arrival_reaches_allBlocks (f := { source := p, body := .ask k }) noisy hears.1 hall
    (by simpa [Frame.inRange, hk] using hp.1) (by simp [State.isClash, hp.isOwn_false])

/-- A peer HOLD reaches the Claim Engine after the Presence Unit (R34, R94). -/
theorem exec_holdArrival (g : Byte) (noisy : Bool) :
    exec (.holdArrival p k g noisy) s =
      .next (refreshAccess (claimHold true p k g (s.heard p none noisy))) :=
  arrival_reaches_allBlocks (f := { source := p, body := .hold k g }) noisy hears.1 hall
    (by simpa [Frame.inRange, hk] using hp.1) (by simp [State.isClash, hp.isOwn_false])

/-- A peer OBJECT whose precedent is not the own address reaches the Claim Engine (R28, R93, R94). -/
theorem exec_objectArrival {q : Addr} (hq : s.ownAddr = 0 ∨ q ≠ s.ownAddr) {r : Byte}
    (hr : r = 1 ∨ r = 2) (g : Byte) (noisy : Bool) :
    exec (.objectArrival p k (addrByte q) r g noisy) s =
      .next (refreshAccess (claimObject k (addrByte q) r g (s.heard p none noisy))) :=
  arrival_reaches_allBlocks (f := { source := p, body := .object k (addrByte q) r g }) noisy hears.1 hall
    (by simpa [Frame.inRange, hk] using ⟨hp.1, addrByte_le q, hr⟩)
    (by simpa [State.isClash, hp.isOwn_false, addrByte_inj, or_iff_not_imp_left] using hq)

/-- A peer OBJECT with reason HELD that names a foreign station is evidence of its hold (R28, R30). -/
theorem exec_objectArrival_held {q : Addr} (hq : s.Foreign q) (g : Byte) (noisy : Bool) :
    exec (.objectArrival p k (addrByte q) 1 g noisy) s =
      .next (refreshAccess (claimHold false q k g (s.heard p none noisy))) := by
  rw [exec_objectArrival hears hall hp hk (.inr hq.2) (.inl rfl), claimObject_held hq.1]

/-- A peer OBJECT with reason EARLIER_ASK that names a foreign station is evidence of its ask (R28, R30). -/
theorem exec_objectArrival_earlier {q : Addr} (hq : s.Foreign q) (g : Byte) (noisy : Bool) :
    exec (.objectArrival p k (addrByte q) 2 g noisy) s =
      .next (refreshAccess (claimObjectEarlier q k g (s.heard p none noisy))) := by
  rw [exec_objectArrival hears hall hp hk (.inr hq.2) (.inr rfl), claimObject_earlier hq.1]

/-- A peer OBJECT that names no station is heard and left unapplied (R28). -/
theorem exec_objectArrival_nobody (hown : s.ownAddr ≠ 0) {r : Byte} (hr : r = 1 ∨ r = 2) (g : Byte)
    (noisy : Bool) :
    exec (.objectArrival p k 0 r g noisy) s = .next (refreshAccess (s.heard p none noisy)) := by
  have hexec := exec_objectArrival (q := 0) hears hall hp hk (.inr hown.symm) hr g noisy
  rwa [addrByte_eq_zero.mpr rfl, claimObject_nobody] at hexec

end Arrivals

/-! ### The Claim Engine by the state of the entry -/

/-- A peer ASK for a key without an entry is passed over (R15). -/
theorem claimAsk_absent {s : State} {k : Byte} (h : s.entry k = none) (p : Addr) : claimAsk p k s = s := by
  simp [claimAsk, h]

/-- A peer HOLD of a key without an entry is passed over (R15). -/
theorem claimHold_absent {s : State} {k : Byte} (h : s.entry k = none) (repeats : Bool) (q : Addr) (g : Byte) :
    claimHold repeats q k g s = s := by
  simp [claimHold, h]

/-- An OBJECT with reason EARLIER_ASK for a key without an entry is passed over (R15). -/
theorem claimObjectEarlier_absent {s : State} {k : Byte} (h : s.entry k = none) (q : Addr) (g : Byte) :
    claimObjectEarlier q k g s = s := by
  simp [claimObjectEarlier, h]

/-- The state after a peer has ended the ask of an entry in its favour: the entry moved, the ASK order gone,
and REFUSED with want NONE for a ONCE ask (R26, R29, R35). -/
def State.askLost (s : State) (n : Nat) (e : Entry) (r : EndReason) (q : Addr) : State :=
  let t := { s.putEntry n e with normal := s.normal.filter fun o => !o.isAskOf e.key }
  if e.want = .once then (produce (.refused e.key r q) t).putEntry n { e with want := .none } else t

section ByEntryState

variable {s : State} {n : Nat} {e : Entry} (h : s.EntryAt n e)
include h

/-- REFUSED behind an entry that a peer has just moved, its ASK order gone. -/
theorem refuseOnce_moved (d : Entry) (hkey : d.key = e.key) (r : EndReason) (q : Addr) :
    refuseOnce e.key d.want r q
        { s.putEntry n d with normal := s.normal.filter fun o => !o.isAskOf e.key } = s.askLost n d r q := by
  have hmoved :
      ({ s.putEntry n d with normal := s.normal.filter fun o => !o.isAskOf d.key } : State).EntryAt n d :=
    (h.put d hkey).congr rfl
  rw [← hkey]
  exact refuseOnce_at hmoved r q

/-- An ask that ends in favour of a peer whose claim takes its place with the generation of the frame
(R29, R35). -/
theorem refuseOnce_setClaimGen (c : Claim) (g : Byte) (r : EndReason) (q : Addr) :
    refuseOnce e.key e.want r q (setClaimGen e.key c g (removeAsk e.key s)) =
      s.askLost n { e with claim := c, gen := g } r q := by
  have hput : setClaimGen e.key c g (removeAsk e.key s) =
      { s.putEntry n { e with claim := c, gen := g } with
        normal := s.normal.filter fun o => !o.isAskOf e.key } :=
    setClaimGen_at (h.congr (removeAsk_table _ _)) c g
  rw [hput]
  exact refuseOnce_moved h { e with claim := c, gen := g } rfl r q

/-- An ask that ends in favour of a peer that asked before (R26, R29). -/
theorem refuseOnce_deferTo {c : Configuration} (hc : s.config = some c) (r : EndReason) (q : Addr) :
    refuseOnce e.key e.want r q (deferTo e.key q (removeAsk e.key s)) =
      s.askLost n { e with claim := .peerAsking q (ms (2 * c.window.toNat)) } r q := by
  have hput : deferTo e.key q (removeAsk e.key s) =
      { s.putEntry n { e with claim := .peerAsking q (ms (2 * c.window.toNat)) } with
        normal := s.normal.filter fun o => !o.isAskOf e.key } :=
    deferTo_at (h.congr (removeAsk_table _ _)) hc q
  rw [hput]
  exact refuseOnce_moved h { e with claim := .peerAsking q (ms (2 * c.window.toNat)) } rfl r q

/-- A peer ASK at a FREE entry (R25). -/
theorem claimAsk_free {c : Configuration} (hc : s.config = some c) (hf : e.claim = .free) (p : Addr) :
    claimAsk p e.key s = s.putEntry n { e with claim := .peerAsking p (ms (2 * c.window.toNat)) } := by
  simp only [claimAsk, h.entry, hf, deferTo_at h hc]

/-- A peer ASK leaves an entry that another ASK has reached (R25). -/
theorem claimAsk_peerAsking {a : Addr} {d : Time} (ha : e.claim = .peerAsking a d) (p : Addr) :
    claimAsk p e.key s = s := by
  simp only [claimAsk, h.entry, ha]

/-- A peer ASK at a THEIRS entry means something only of its holder (R25). -/
theorem claimAsk_theirs {c : Configuration} (hc : s.config = some c) {q : Addr} (hq : e.claim = .theirs q)
    (p : Addr) :
    claimAsk p e.key s =
      if q = p then s.putEntry n { e with claim := .peerAsking p (ms (2 * c.window.toNat)) } else s := by
  simp only [claimAsk, h.entry, hq, deferTo_at h hc]

/-- A peer ASK comes before an own ASK that is not sent (R26). -/
theorem claimAsk_unsent {c : Configuration} (hc : s.config = some c) (ha : e.claim = .asking none) (p : Addr) :
    claimAsk p e.key s =
      s.askLost n { e with claim := .peerAsking p (ms (2 * c.window.toNat)) } .peerFirst p := by
  simp only [claimAsk, h.entry, ha, refuseOnce_deferTo h hc]

/-- A peer ASK draws an objection while the own ASK is sent or the key is MINE (R27). -/
theorem claimAsk_objects (hc : (∃ t, e.claim = .asking (some t)) ∨ e.claim = .mine) (p : Addr) :
    claimAsk p e.key s = requestObject e.key s := by
  rcases hc with ⟨t, hc⟩ | hc <;> simp only [claimAsk, h.entry, hc]

/-- Evidence of a peer's hold ends an own ask (R29, R35). -/
theorem claimHold_asking {t : Option Time} (ha : e.claim = .asking t) (repeats : Bool) (q : Addr) (g : Byte) :
    claimHold repeats q e.key g s = s.askLost n { e with claim := .theirs q, gen := g } .peerHeld q := by
  simp only [claimHold, h.entry, ha, refuseOnce_setClaimGen h]

/-- Evidence of a peer's hold enters its holder where the entry names none (R30, R34). -/
theorem claimHold_enters (hc : e.claim = .free ∨ ∃ a d, e.claim = .peerAsking a d) (repeats : Bool) (q : Addr)
    (g : Byte) :
    claimHold repeats q e.key g s =
      produce (.taken e.key q g) (s.putEntry n { e with claim := .theirs q, gen := g }) := by
  rcases hc with hc | ⟨a, d, hc⟩ <;> simp only [claimHold, h.entry, hc, setClaimGen_at h]

/-- Evidence of a peer's hold at a THEIRS entry: what repeats holder and generation changes nothing, unless it is
a HOLD, which reports them again (R30, R34, R53). -/
theorem claimHold_theirs {x : Addr} (hx : e.claim = .theirs x) (repeats : Bool) (q : Addr) (g : Byte) :
    claimHold repeats q e.key g s =
      if x = q ∧ e.gen = g ∧ repeats = false then s
      else produce (.taken e.key q g) (s.putEntry n { e with claim := .theirs q, gen := g }) := by
  simp only [claimHold, h.entry, hx, setClaimGen_at h]

/-- An OBJECT with reason EARLIER_ASK ends an own ask (R29). -/
theorem claimObjectEarlier_asking {c : Configuration} (hc : s.config = some c) {t : Option Time}
    (ha : e.claim = .asking t) (q : Addr) (g : Byte) :
    claimObjectEarlier q e.key g s =
      s.askLost n { e with claim := .peerAsking q (ms (2 * c.window.toNat)) } .peerFirst q := by
  simp only [claimObjectEarlier, h.entry, ha, refuseOnce_deferTo h hc]

/-- An OBJECT with reason EARLIER_ASK tells of an asker where none is known (R30). -/
theorem claimObjectEarlier_free {c : Configuration} (hc : s.config = some c) (hf : e.claim = .free) (q : Addr)
    (g : Byte) :
    claimObjectEarlier q e.key g s =
      s.putEntry n { e with claim := .peerAsking q (ms (2 * c.window.toNat)) } := by
  simp only [claimObjectEarlier, h.entry, hf, deferTo_at h hc]

/-- An OBJECT with reason EARLIER_ASK leaves an entry that names an asker or a holder (R30). -/
theorem claimObjectEarlier_known (hc : (∃ a d, e.claim = .peerAsking a d) ∨ ∃ x, e.claim = .theirs x) (q : Addr)
    (g : Byte) : claimObjectEarlier q e.key g s = s := by
  rcases hc with ⟨a, d, hc⟩ | ⟨x, hc⟩ <;> simp only [claimObjectEarlier, h.entry, hc]

/-! ### Composing an OBJECT -/

/-- An OBJECT order is composed with the own address and the generation of its entry, if it still has a reason
(R132, R135). -/
theorem composeUrgent_object :
    composeUrgent s (.object e.key) =
      (s.objectReason e.key).map fun r => .object e.key (addrByte s.ownAddr) r e.gen := by
  simp [composeUrgent, State.genOf, h.entry]

end ByEntryState

/-- The OBJECT order for the key is the one that names it (R115). -/
theorem UrgentOrder.isObjectOf_iff (k : Byte) (o : UrgentOrder) : o.isObjectOf k = true ↔ o = .object k := by
  cases o <;> simp [UrgentOrder.isObjectOf]

/-- An OBJECT request in a transmitting state joins the tail unless one stands for the key (R118). -/
theorem requestObject_transmits {s : State} (h : s.station.transmits = true) (k : Byte) :
    requestObject k s =
      { s with urgent := if .object k ∈ s.urgent then s.urgent else s.urgent ++ [.object k] } := by
  have hany : s.urgent.any (UrgentOrder.isObjectOf k) = decide (.object k ∈ s.urgent) := by
    rw [Bool.eq_iff_iff]
    simp [UrgentOrder.isObjectOf_iff]
  by_cases hin : .object k ∈ s.urgent <;> simp [requestObject, h, hany, hin]

/-! ### ASK on a taken key -/

/-- LISTENING and ACTIVE take ASK (R10, R147). -/
theorem StationState.takesAsk_iff (st : StationState) :
    st.takesAsk = true ↔ st = .listening ∨ st = .active := by
  cases st <;> decide

/-- The mode that a mode byte in range names (R18). -/
def modeOf (b : Byte) : Want := if b = 1 then .once else .wait

/-- ASK with a key and a mode, taken on an idle port, is the owner's command (R18, R170). -/
theorem exec_ask {s : State} (h : s.TakesCommands) (k mode : Byte) :
    exec (.ask [k, mode]) s = .next (refreshAccess (askCommand k mode (s.clocked 3))) := by
  have hrow : exec (.ask [k, mode]) s = live (commandTransaction (cmdAsk :: [k, mode])) s := rfl
  rw [hrow, live_eq h.1.1, commandTransaction_taken h _ _ (by simp), ownerTakes_ask]
  rfl

/-- ASK past its checks goes to the entry of the key (R10, R18). -/
theorem askCommand_checked {s : State} {k mode : Byte} (hst : s.station.takesAsk = true)
    (hk : validKey k = true) (hm : mode = 1 ∨ mode = 2) :
    askCommand k mode s = askEntry k (modeOf mode) s := by
  rcases hm with rfl | rfl <;> simp [askCommand, hst, hk, modeOf]

section TakenKey

variable {s : State} {n : Nat} {e : Entry} (h : s.EntryAt n e)
include h

/-- The four fields of an ASK result on an entry at its number (R18, R171). -/
theorem answerAsk_at (code : ResultCode) :
    answerAsk code e.key s =
      s.answered code cmdAsk [e.key, natByte n, e.claim.code, addrByte (e.claim.station s.ownAddr)] := by
  simp only [answerAsk, State.entryStation, h.fields, h.entry]
  rfl

/-- ASK on a key that is not FREE (R19). -/
theorem askEntry_taken (hfree : e.claim ≠ .free) (w : Want) : askEntry e.key w s = askBusy e.key w e s := by
  simp [askEntry, h.entry, hfree]

/-- ASK on a MINE entry (R19). -/
theorem askBusy_mine (hc : e.claim = .mine) (w : Want) :
    askBusy e.key w e s = s.answered .alreadyHeld cmdAsk [e.key, natByte n, 3, addrByte s.ownAddr] := by
  simp [askBusy, hc, answerAsk_at h, Claim.code, Claim.station]

/-- ASK on an ASKING entry (R19). -/
theorem askBusy_asking {t : Option Time} (hc : e.claim = .asking t) (w : Want) :
    askBusy e.key w e s = s.answered .busyKey cmdAsk [e.key, natByte n, 2, 0] := by
  simp [askBusy, hc, answerAsk_at h, Claim.code, Claim.station, addrByte]

/-- ASK on an entry that names another station: refused in mode ONCE, and in mode WAIT kept as a waiting ask
(R19). -/
theorem askBusy_peer (hc : (∃ q, e.claim = .theirs q) ∨ ∃ a d, e.claim = .peerAsking a d) (w : Want) :
    askBusy e.key w e s =
      let fields := [e.key, natByte n, e.claim.code, addrByte (e.claim.station s.ownAddr)]
      if w = .once then s.answered .heldByPeer cmdAsk fields
      else (s.putEntry n { e with want := .wait }).answered .queuedWait cmdAsk fields := by
  have hwait : answerAsk .queuedWait e.key (s.putEntry n { e with want := .wait }) =
      (s.putEntry n { e with want := .wait }).answered .queuedWait cmdAsk
        [e.key, natByte n, e.claim.code, addrByte (e.claim.station s.ownAddr)] :=
    answerAsk_at (h.put { e with want := .wait } rfl) _
  dsimp only
  rw [← answerAsk_at h, ← hwait, ← setWant_at h]
  rcases hc with ⟨q, hc⟩ | ⟨a, d, hc⟩ <;> simp only [askBusy, hc]

end TakenKey

/-- Settles O15: past its checks ASK reaches the entry, each row of R19's table is one equation of `askBusy`, and
no row touches the lanes. -/
theorem askOnATakenKey : Obligations.AskOnATakenKey := by
  intro s n e mode htakes hfollows hst hat low high hmode
  have hat' : (s.clocked 3).EntryAt n e := hat.congr rfl
  have hst' : (s.clocked 3).station.takesAsk = true := (StationState.takesAsk_iff s.station).mpr hst
  have hbusy (hfree : e.claim ≠ .free) : exec (.ask [e.key, mode]) s =
      .next (refreshAccess (askBusy e.key (modeOf mode) e (s.clocked 3))) := by
    rw [exec_ask htakes, askCommand_checked hst' (validKey_of_range low high) hmode,
      askEntry_taken hat' hfree]
  have honce : modeOf mode = .once ↔ mode = 1 := by simp [modeOf]
  refine ⟨fun hc => ?_, fun t hc => ?_, fun q hc => ?_, fun a d hc => ?_⟩ <;>
    rw [hbusy (by simp [hc])]
  · rw [askBusy_mine hat' hc]
    exact hfollows.next_eq rfl rfl rfl rfl
  · rw [askBusy_asking hat' hc]
    exact hfollows.next_eq rfl rfl rfl rfl
  · rw [askBusy_peer hat' (.inl ⟨q, hc⟩)]
    simp only [honce, hc]
    split <;> exact hfollows.next_eq rfl rfl rfl rfl
  · rw [askBusy_peer hat' (.inr ⟨a, d, hc⟩)]
    simp only [honce, hc]
    split <;> exact hfollows.next_eq rfl rfl rfl rfl

/-! ### A peer ASK -/

/-- Settles O33: the ASK reaches `claimAsk` behind the common effects of a foreign frame, which leave the entry
where it is; each clause is the equation of `claimAsk` for that state of the entry. -/
theorem askArrivalByEntryState : Obligations.AskArrivalByEntryState := by
  intro s p k noisy c hears hall hp low high hconfig
  have hexec := exec_askArrival hears hall hp (validKey_of_range low high) noisy
  have hc : (s.heard p none noisy).config = some c := by rw [heard_config, hconfig]
  refine ⟨fun habsent => ?_, fun n e hat hkey => ?_⟩
  · rw [hexec, claimAsk_absent (by rw [heard_entry, habsent])]
  · subst hkey
    have hat' := hat.heard p none noisy
    refine ⟨fun hf => ?_, fun a d ha => ?_, fun q hq => ?_, fun ha => ?_, fun ho htransmits => ?_, ?_⟩
    · rw [hexec, claimAsk_free hat' hc hf]
    · rw [hexec, claimAsk_peerAsking hat' ha]
    · rw [hexec, claimAsk_theirs hat' hc hq]
    · rw [hexec, claimAsk_unsent hat' hc ha, State.askLost, heard_normal]
    · rw [hexec, claimAsk_objects hat' ho, requestObject_transmits (by rw [heard_station, htransmits]),
        heard_urgent]
    · rw [composeUrgent_object hat]
      rcases hclaim : e.claim with _ | _ | (_ | t) | _ | _ <;>
        simp [State.objectReason, hat.entry, hclaim]

/-! ### A peer OBJECT and a peer HOLD -/

/-- Settles O34: an OBJECT with reason HELD and a HOLD meet the entry as evidence of a hold, one with reason
EARLIER_ASK as evidence of an earlier ask; each clause is the equation for that state of the entry. -/
theorem objectAndHoldArrivalByEntryState : Obligations.ObjectAndHoldArrivalByEntryState := by
  refine ⟨fun s p q k g noisy c hears hall hp hq low high hconfig => ?_,
    fun s q k g noisy hears hall hq low high => ?_⟩
  · have hk := validKey_of_range low high
    have hheld := exec_objectArrival_held hears hall hp hk hq g noisy
    have hearlier := exec_objectArrival_earlier hears hall hp hk hq g noisy
    have hnobody {r : Byte} (hown : s.ownAddr ≠ 0) (hr : r = 1 ∨ r = 2) :=
      exec_objectArrival_nobody hears hall hp hk hown hr g noisy
    have hc : (s.heard p none noisy).config = some c := by rw [heard_config, hconfig]
    refine ⟨fun habsent => ?_, fun hown => ⟨hnobody hown (.inl rfl), hnobody hown (.inr rfl)⟩,
      fun n e hat hkey => ?_⟩
    · have habsent' : (s.heard p none noisy).entry k = none := by rw [heard_entry, habsent]
      rw [hheld, hearlier, claimHold_absent habsent', claimObjectEarlier_absent habsent']
      exact ⟨rfl, rfl⟩
    · subst hkey
      have hat' := hat.heard p none noisy
      refine ⟨fun t ha => ⟨?_, ?_⟩, fun hf => ⟨?_, ?_⟩, fun a d ha => ⟨?_, ?_⟩, fun x hx => ⟨?_, ?_⟩⟩
      · rw [hheld, claimHold_asking hat' ha, State.askLost, heard_normal]
      · rw [hearlier, claimObjectEarlier_asking hat' hc ha, State.askLost, heard_normal]
      · rw [hheld, claimHold_enters hat' (.inl hf)]
      · rw [hearlier, claimObjectEarlier_free hat' hc hf]
      · rw [hheld, claimHold_enters hat' (.inr ⟨a, d, ha⟩)]
      · rw [hearlier, claimObjectEarlier_known hat' (.inl ⟨a, d, ha⟩)]
      · rw [hheld, claimHold_theirs hat' hx]
        simp only [and_true]
      · rw [hearlier, claimObjectEarlier_known hat' (.inr ⟨x, hx⟩)]
  · have hexec := exec_holdArrival hears hall hq (validKey_of_range low high) g noisy
    refine ⟨fun habsent => ?_, fun n e hat hkey => ?_⟩
    · rw [hexec, claimHold_absent (by rw [heard_entry, habsent])]
    · subst hkey
      have hat' := hat.heard q none noisy
      refine ⟨fun hclaim => ?_, fun t ha => ?_⟩
      · rw [hexec]
        rcases hclaim with hf | ha | ⟨x, hx⟩
        · rw [claimHold_enters hat' (.inl hf)]
        · rw [claimHold_enters hat' (.inr ha)]
        · rw [claimHold_theirs hat' hx, if_neg (by simp)]
      · rw [hexec, claimHold_asking hat' ha, State.askLost, heard_normal]

/-! ### The claim timers -/

section ClaimTimers

variable {s : State} {n : Nat} {e : Entry} (h : s.EntryAt n e)
include h

/-- The station takes the key of the entry at its number (R31). -/
theorem grantKey_at (hst : s.station.transmits = true) :
    grantKey e.key e s =
      { produce (.granted e.key (e.gen + 1))
          (s.putEntry n { e with claim := .mine, gen := e.gen + 1, want := .none }) with
        urgent := placeState (.hold e.key) s.urgent } := by
  have hput : setWant e.key .none (setClaimGen e.key .mine (e.gen + 1) s) =
      s.putEntry n { e with claim := .mine, gen := e.gen + 1, want := .none } := by
    rw [setClaimGen_at h]
    exact (setWant_at (h.put { e with claim := .mine, gen := e.gen + 1 } rfl) .none).trans
      (putEntry_putEntry _ _ _ _)
  rw [grantKey, hput, requestState_transmits (by rw [produce_station]; exact hst), produce_urgent]
  rfl

/-- A waiting ask starts again on the entry at its number: queued in ACTIVE, held elsewhere (R20, R37). -/
theorem restartAsk_at (hroom : s.normal.length < 21) :
    restartAsk e.key s =
      { s.putEntry n { e with claim := .asking none } with
        normal := if s.station = .active then s.normal ++ [.ask e.key] else s.normal } := by
  rw [restartAsk, startAsk, setClaim_at h]
  by_cases hactive : s.station = .active
  · simp [State.putEntry, requestAsk, hactive, StationState.transmits, normalCapacity, hroom]
  · simp [State.putEntry, hactive]

/-- The entry at its number becomes FREE, or starts its waiting ask again (R5, R36, R37). -/
theorem becomeFree_at (hroom : s.normal.length < 21) : becomeFree e.key s = s.freed n e := by
  have hfree := h.put { e with claim := .free } rfl
  have hentry : (s.putEntry n { e with claim := .free }).entry e.key = some { e with claim := .free } :=
    hfree.entry
  have hrestart : restartAsk e.key (s.putEntry n { e with claim := .free }) =
      { (s.putEntry n { e with claim := .free }).putEntry n { e with claim := .asking none } with
        normal := if s.station = .active then s.normal ++ [.ask e.key] else s.normal } :=
    restartAsk_at (e := { e with claim := .free }) hfree hroom
  rw [putEntry_putEntry] at hrestart
  simp only [becomeFree, setClaim_at h, hentry, hrestart, State.freed]

/-- The window of the entry expires while it is not paused (R9, R31). -/
theorem windowExpires_at {t : Time} (ha : e.claim = .asking (some t)) :
    windowExpires e.key s = if s.monitor.timersRun then grantKey e.key e s else s := by
  simp only [windowExpires, h.entry, ha]

/-- The deferral of the entry expires while it is not paused (R9, R36). -/
theorem deferralExpires_at {a : Addr} {d : Time} (ha : e.claim = .peerAsking a d) :
    deferralExpires e.key s = if s.monitor.timersRun then becomeFree e.key s else s := by
  simp only [deferralExpires, h.entry, ha]

end ClaimTimers

/-- Settles O47: a running timer grants the key, for which the law of life gives that an ASK is sent in ACTIVE
alone, or frees the entry; a paused one leaves the state. -/
theorem claimTimerExpiryGrantsOrFrees : Obligations.ClaimTimerExpiryGrantsOrFrees := by
  intro s n e hreset hat hlife
  have hwindow : exec (.windowExpiry e.key) s = .next (refreshAccess (windowExpires e.key s)) :=
    live_eq hreset
  have hdeferral : exec (.deferralExpiry e.key) s = .next (refreshAccess (deferralExpires e.key s)) :=
    live_eq hreset
  refine ⟨fun t ha => ⟨fun hruns => ?_, fun hpaused hfollows => ?_⟩,
    fun a d ha => ⟨fun hruns hroom => ?_, fun hpaused hfollows => ?_⟩⟩
  · obtain ⟨-, -, -, hentries⟩ := hlife
    obtain ⟨-, -, hsent, -⟩ := hentries e (List.mem_of_getElem? hat.1)
    have htransmits : s.station.transmits = true := by rw [hsent t ha]; rfl
    rw [hwindow, windowExpires_at hat ha, if_pos hruns, grantKey_at hat htransmits]
  · rw [hwindow, windowExpires_at hat ha, hpaused]
    exact hfollows.next_eq rfl rfl rfl rfl
  · rw [hdeferral, deferralExpires_at hat ha, if_pos hruns, becomeFree_at hat hroom]
  · rw [hdeferral, deferralExpires_at hat ha, hpaused]
    exact hfollows.next_eq rfl rfl rfl rfl

end Sys2Proof.Machine

/-! A peer FREE at the Claim Engine, by the state of the entry it reaches (R15, R45 to R47). -/

namespace Sys2Proof.Machine

/-- A peer FREE reaches the Claim Engine after the Presence Unit (R45, R94). -/
theorem exec_freeArrival {s : State} {p : Addr} {k : Byte} (hears : s.HearsAFrame) (hall : s.DispatchesAll)
    (hp : s.Foreign p) (hk : validKey k = true) (g : Byte) (withdrawn noisy : Bool) :
    exec (.freeArrival p k g withdrawn noisy) s =
      .next (refreshAccess (claimFree p k withdrawn (s.heard p none noisy))) :=
  arrival_reaches_allBlocks (f := { source := p, body := .free k g withdrawn }) noisy hears.1 hall
    (by simpa [Frame.inRange, hk] using hp.1) (by simp [State.isClash, hp.isOwn_false])

/-- A peer FREE of a key without an entry is passed over (R15). -/
theorem claimFree_absent {s : State} {k : Byte} (h : s.entry k = none) (p : Addr) (withdrawn : Bool) :
    claimFree p k withdrawn s = s := by
  simp only [claimFree, h]

/-- The entry does not match a FREE from `p`: it names `p` neither as holder nor as asker (R47). -/
def Claim.ignoresFree (p : Addr) (c : Claim) : Prop :=
  c = .free ∨ (∃ t, c = .asking t) ∨ c = .mine ∨ (∃ q, c = .theirs q ∧ q ≠ p) ∨
    ∃ a d, c = .peerAsking a d ∧ a ≠ p

section FreeByEntryState

variable {s : State} {n : Nat} {e : Entry} (h : s.EntryAt n e)
include h

/-- A FREE of its holder frees a THEIRS entry (R45). -/
theorem claimFree_ofHolder (hroom : s.normal.length < 21) {p : Addr} (hc : e.claim = .theirs p)
    (withdrawn : Bool) :
    claimFree p e.key withdrawn s = (produce (.freed e.key p .released) s).freed n e := by
  have hat : (produce (.freed e.key p .released) s).EntryAt n e := h.congr (produce_table _ s)
  simp only [claimFree, h.entry, hc, if_true]
  exact becomeFree_at hat (by rw [produce_normal]; exact hroom)

/-- A FREE of the asker ends its ask where it carries the withdrawn mark (R46). -/
theorem claimFree_ofAsker (hroom : s.normal.length < 21) {p : Addr} {d : Time}
    (hc : e.claim = .peerAsking p d) (withdrawn : Bool) :
    claimFree p e.key withdrawn s = if withdrawn = true then s.freed n e else count .ignored s := by
  simp only [claimFree, h.entry, hc, true_and, becomeFree_at h hroom]

/-- A FREE that does not match the entry is ignored (R47). -/
theorem claimFree_ignored {p : Addr} (hc : e.claim.ignoresFree p) (withdrawn : Bool) :
    claimFree p e.key withdrawn s = count .ignored s := by
  rcases hc with hc | ⟨t, hc⟩ | hc | ⟨q, hc, hq⟩ | ⟨a, d, hc, ha⟩ <;> simp only [claimFree, h.entry, hc]
  · rw [if_neg hq]
  · rw [if_neg fun hboth => ha hboth.1]

end FreeByEntryState

/-- Settles O37: the FREE reaches the Claim Engine in the state that heard it, which has the table and the lane of
the state before, and each case of the statement is one equation of the Claim Engine. -/
theorem freeArrivalFreesOrIsIgnored : Obligations.FreeArrivalFreesOrIsIgnored := by
  intro s p k g withdrawn noisy hears hall hp low high hroom _ h
  have hexec := exec_freeArrival hears hall hp (validKey_of_range low high) g withdrawn noisy
  have hroom' : h.normal.length < 21 := by rw [heard_normal]; exact hroom
  refine ⟨fun habsent => ?_, fun n e hat hkey => ?_⟩
  · rw [hexec, claimFree_absent (by rw [heard_entry, habsent])]
  · subst hkey
    have hat' : h.EntryAt n e := hat.heard p none noisy
    refine ⟨fun hc => ?_, fun d hc => ?_, fun hc => ?_⟩
    · rw [hexec, claimFree_ofHolder hat' hroom' hc]
    · rw [hexec, claimFree_ofAsker hat' hroom' hc]
      cases withdrawn <;> rfl
    · rw [hexec, claimFree_ignored hat' hc]
      rfl

end Sys2Proof.Machine

/-! The rules that take the entries one key after another: what such a rule does at one entry gives its whole
effect. With it the orphan release (R48) and self-expiry (R50, R51, R72). -/

namespace Sys2Proof.Machine

/-! ### Notices produced in order -/

/-- Notices produced in order change the queue and its loss counter alone. -/
theorem produceAll_eq (ns : List Notice) (s : State) :
    produceAll ns s = { s with notices := (produceAll ns s).notices, counters := (produceAll ns s).counters } := by
  induction ns generalizing s with
  | nil => rfl
  | cons n ns ih =>
    have hcons : produceAll (n :: ns) s = produceAll ns (produce n s) := rfl
    rw [hcons, ih (produce n s), produce_eq]

/-- Notices produced leave the configuration. -/
@[simp] theorem produceAll_config (ns : List Notice) (s : State) : (produceAll ns s).config = s.config := by
  rw [produceAll_eq]

/-- Producing two lists is producing one behind the other. -/
theorem produceAll_append (ms ns : List Notice) (s : State) :
    produceAll (ms ++ ns) s = produceAll ns (produceAll ms s) :=
  List.foldl_append

/-- What a notice does to the queue depends on the queue, its loss counter and the mask alone (R173, R175). -/
theorem produce_congr {s t : State} (hconfig : t.config = s.config) (hnotices : t.notices = s.notices)
    (hcounters : t.counters = s.counters) (n : Notice) :
    (produce n t).notices = (produce n s).notices ∧ (produce n t).counters = (produce n s).counters := by
  simp only [produce, appendNotice, hconfig, hnotices, hcounters]
  split
  · (repeat' split) <;> exact ⟨rfl, rfl⟩
  · exact ⟨hnotices, hcounters⟩

/-- A notice produced in a state with the queue, the loss counter and the mask of another. -/
theorem produce_eq_of_congr {s t : State} (hconfig : t.config = s.config) (hnotices : t.notices = s.notices)
    (hcounters : t.counters = s.counters) (n : Notice) :
    produce n t = { t with notices := (produce n s).notices, counters := (produce n s).counters } := by
  obtain ⟨hn, hc⟩ := produce_congr hconfig hnotices hcounters n
  rw [produce_eq, hn, hc]

/-- What the notices of a list do depends on the same. -/
theorem produceAll_congr {s t : State} (hconfig : t.config = s.config) (hnotices : t.notices = s.notices)
    (hcounters : t.counters = s.counters) (ns : List Notice) :
    (produceAll ns t).notices = (produceAll ns s).notices ∧
      (produceAll ns t).counters = (produceAll ns s).counters := by
  induction ns generalizing s t with
  | nil => exact ⟨hnotices, hcounters⟩
  | cons n ns ih =>
    obtain ⟨hn, hc⟩ := produce_congr hconfig hnotices hcounters n
    exact ih (by rw [produce_config, produce_config, hconfig]) hn hc

/-! ### The keys in ascending order -/

/-- Inserting a key moves nothing but the key. -/
theorem insertKey_perm (k : Byte) (l : List Byte) : (insertKey k l).Perm (k :: l) := by
  induction l with
  | nil => exact .refl _
  | cons x l ih =>
    rw [insertKey]
    split
    · exact .refl _
    · exact (ih.cons x).trans (.swap k x l)

/-- Sorting takes every key once. -/
theorem sortKeys_perm (l : List Byte) : (sortKeys l).Perm l := by
  induction l with
  | nil => exact .refl _
  | cons k l ih => exact (insertKey_perm k _).trans (ih.cons k)

/-- In a table without a key twice every key is taken once. -/
theorem nodup_keysAscending {s : State} (h : (tableKeys s.table).Nodup) : s.keysAscending.Nodup :=
  (sortKeys_perm _).nodup_iff.mpr h

/-- In a table without a key twice the entry found for a key stands at a number. -/
theorem exists_entryAt {s : State} (h : (tableKeys s.table).Nodup) {k : Byte} {e : Entry}
    (he : s.entry k = some e) : e.key = k ∧ ∃ n, s.EntryAt n e := by
  obtain ⟨n, hn⟩ := List.getElem?_of_mem (findEntry_mem he)
  exact ⟨findEntry_key he, n, .of_nodup h hn⟩

/-- The key has an entry with this property. -/
def State.holdsAt (s : State) (q : Entry → Bool) (k : Byte) : Bool := ((s.entry k).map q).getD false

/-- An entry has two properties where it has each. -/
theorem State.holdsAt_and (s : State) (q r : Entry → Bool) :
    (fun k => s.holdsAt q k && s.holdsAt r k) = s.holdsAt fun e => q e && r e := by
  funext k
  cases he : s.entry k <;> simp [State.holdsAt, he]

/-- The keys of the entries with a property, in the order in which the keys are taken. -/
theorem keys_filter (s : State) (q : Entry → Bool) (ks : List Byte) :
    ((ks.filterMap s.entry).filter q).map Entry.key = ks.filter (s.holdsAt q) := by
  induction ks with
  | nil => rfl
  | cons k ks ih =>
    rcases he : s.entry k with _ | e
    · simp [he, State.holdsAt, ← ih]
    · have hkey : e.key = k := findEntry_key he
      by_cases hq : q e = true <;> simp [he, State.holdsAt, hq, hkey, ← ih]

/-! ### A rule over many entries -/

/-- What a rule over many entries does at one entry: the entry it leaves, its notice, and the lanes behind it. -/
structure KeyRule where
  entry : Entry → Entry
  notice : Entry → Option Notice
  urgent : Entry → List UrgentOrder → List UrgentOrder
  normal : Entry → List NormalOrder → List NormalOrder
  /-- A rule changes no key (R1). -/
  entry_key : ∀ e, (entry e).key = e.key

/-- The state after the rule has taken the entry `e` at number `n`. -/
def KeyRule.takenAt (r : KeyRule) (n : Nat) (e : Entry) (s : State) : State :=
  { s with
    table := s.table.set n (some (r.entry e))
    urgent := r.urgent e s.urgent, normal := r.normal e s.normal
    notices := (produceAll (r.notice e).toList s).notices
    counters := (produceAll (r.notice e).toList s).counters }

/-- The state after the rule has taken the entries of these keys in turn. -/
def KeyRule.over (r : KeyRule) (ks : List Byte) (s : State) : State :=
  { s with
    table := s.table.map fun place => place.map fun e => if e.key ∈ ks then r.entry e else e
    urgent := (ks.filterMap s.entry).foldl (fun lane e => r.urgent e lane) s.urgent
    normal := (ks.filterMap s.entry).foldl (fun lane e => r.normal e lane) s.normal
    notices := (produceAll ((ks.filterMap s.entry).filterMap r.notice) s).notices
    counters := (produceAll ((ks.filterMap s.entry).filterMap r.notice) s).counters }

/-- In this station state an operation on a key is the rule: it passes over a key without an entry and takes the
entry of any other. -/
structure KeyRule.Describes (r : KeyRule) (station : StationState) (f : Byte → State → State) : Prop where
  absent : ∀ {k : Byte} {s : State}, s.entry k = none → f k s = s
  present : ∀ {n : Nat} {e : Entry} {s : State}, s.station = station → s.EntryAt n e →
    f e.key s = r.takenAt n e s

section OneEntry

variable {s : State} {n : Nat} {e : Entry} (r : KeyRule) (h : s.EntryAt n e)
include h

/-- Taking one entry changes the one place that carries its key. -/
theorem KeyRule.takenAt_table : (r.takenAt n e s).table = modifyEntry e.key r.entry s.table :=
  (modifyEntry_at r.entry h.1 h.2).symm

/-- Taking one entry keeps the keys and their places. -/
theorem KeyRule.takenAt_tableKeys : tableKeys (r.takenAt n e s).table = tableKeys s.table := by
  rw [r.takenAt_table h, tableKeys_modify _ _ r.entry_key]

/-- Taking one entry leaves the entry of any other key. -/
theorem KeyRule.takenAt_entry {k : Byte} (hk : k ≠ e.key) : (r.takenAt n e s).entry k = s.entry k := by
  rw [State.entry, r.takenAt_table h, findEntry_modify k e.key r.entry r.entry_key]
  simp only [hk, if_false, Option.map_id', State.entry]

/-- Taking an entry and then those of other keys is taking them all in that order. -/
theorem KeyRule.over_takenAt {ks : List Byte} (hks : e.key ∉ ks) :
    r.over ks (r.takenAt n e s) = r.over (e.key :: ks) s := by
  have hentries : ks.filterMap (r.takenAt n e s).entry = ks.filterMap s.entry :=
    List.filterMap_congr fun k hk => r.takenAt_entry h fun heq => hks (heq ▸ hk)
  have hcons : (e.key :: ks).filterMap s.entry = e :: ks.filterMap s.entry := by
    rw [List.filterMap_cons, h.entry]
  have htable : (r.takenAt n e s).table.map
        (fun place => place.map fun f => if f.key ∈ ks then r.entry f else f) =
      s.table.map fun place => place.map fun f => if f.key ∈ e.key :: ks then r.entry f else f := by
    rw [r.takenAt_table h, modifyEntry, List.map_map]
    refine List.map_congr_left fun place _ => ?_
    cases place with
    | none => rfl
    | some f => by_cases hf : f.key = e.key <;> simp [hf, hks, r.entry_key]
  have hnotices : ∀ ns : List Notice,
      (produceAll ns (r.takenAt n e s)).notices = (produceAll ((r.notice e).toList ++ ns) s).notices ∧
      (produceAll ns (r.takenAt n e s)).counters = (produceAll ((r.notice e).toList ++ ns) s).counters := by
    intro ns
    rw [produceAll_append]
    exact produceAll_congr (t := r.takenAt n e s) (s := produceAll (r.notice e).toList s)
      (produceAll_config _ s).symm rfl rfl ns
  have hfilter : (e :: ks.filterMap s.entry).filterMap r.notice =
      (r.notice e).toList ++ (ks.filterMap s.entry).filterMap r.notice := by
    cases hn : r.notice e <;> simp [hn]
  obtain ⟨hqueue, hcounters⟩ := hnotices ((ks.filterMap s.entry).filterMap r.notice)
  simp only [KeyRule.over, hentries, hcons, htable, hfilter, hqueue, hcounters]
  rfl

end OneEntry

/-- Taking the keys in turn passes over one without an entry. -/
theorem KeyRule.over_absent (r : KeyRule) {s : State} {k : Byte} (h : s.entry k = none) (ks : List Byte) :
    r.over (k :: ks) s = r.over ks s := by
  have htable : s.table.map (fun place => place.map fun e => if e.key ∈ k :: ks then r.entry e else e) =
      s.table.map fun place => place.map fun e => if e.key ∈ ks then r.entry e else e := by
    refine List.map_congr_left fun place hplace => ?_
    cases place with
    | none => rfl
    | some e => simp [key_ne_of_entry_none h hplace]
  simp only [KeyRule.over, htable, List.filterMap_cons, h]

/-- An operation that is the rule at every key is the rule over any keys taken once each. -/
theorem KeyRule.Describes.overKeys_eq {r : KeyRule} {f : Byte → State → State} {s : State} {ks : List Byte}
    (hrule : r.Describes s.station f) (htable : (tableKeys s.table).Nodup) (hks : ks.Nodup) :
    overKeys f ks s = r.over ks s := by
  induction ks generalizing s with
  | nil => simp [overKeys, KeyRule.over, produceAll]
  | cons k ks ih =>
    obtain ⟨hk, hks'⟩ := List.nodup_cons.mp hks
    have hcons : overKeys f (k :: ks) s = overKeys f ks (f k s) := rfl
    rcases he : s.entry k with _ | e
    · rw [hcons, hrule.absent he, ih hrule htable hks', r.over_absent he]
    · obtain ⟨rfl, n, hat⟩ := exists_entryAt htable he
      rw [hcons, hrule.present rfl hat, ← r.over_takenAt hat hk]
      exact ih (s := r.takenAt n e s) hrule (by rw [r.takenAt_tableKeys hat]; exact htable) hks'

/-- Over the keys of all entries the rule takes every entry. -/
theorem KeyRule.over_keysAscending_table (r : KeyRule) (s : State) :
    (r.over s.keysAscending s).table = s.table.map fun place => place.map r.entry := by
  refine List.map_congr_left fun place hplace => ?_
  cases place with
  | none => rfl
  | some e =>
    have hkey : e.key ∈ s.keysAscending := by
      rw [State.keysAscending, mem_sortKeys]
      exact (mem_tableKeys _ _).mpr ⟨e, hplace, rfl⟩
    simp only [Option.map_some, hkey, if_true]

/-- Over the keys of all entries the rule in one equation. -/
theorem KeyRule.over_keysAscending (r : KeyRule) (s : State) :
    r.over s.keysAscending s =
      { r.over s.keysAscending s with table := s.table.map fun place => place.map r.entry } := by
  rw [← r.over_keysAscending_table s]

/-! ### Orphan release -/

/-- The entry names the station as holder or as asker (R48). -/
def Entry.names (p : Addr) (e : Entry) : Bool :=
  match e.claim with
  | .theirs h => h == p
  | .peerAsking a _ => a == p
  | _ => false

/-- The claim of an entry that has become FREE by a rule of the line: with want WAIT the ask starts again
(R5, R37). -/
def Entry.freedClaim (e : Entry) : Claim := if e.want = .wait then .asking none else .free

/-- The normal lane behind an entry that has become FREE: in ACTIVE the restarted ask has joined it, unless the
lane refuses the order (R37, R120). -/
def restartLane (station : StationState) (e : Entry) (lane : List NormalOrder) : List NormalOrder :=
  if e.want = .wait ∧ station = .active ∧ lane.length < 21 then lane ++ [.ask e.key] else lane

/-- The entry at its number becomes FREE whether or not the normal lane has room. -/
theorem becomeFree_lane {s : State} {n : Nat} {e : Entry} (h : s.EntryAt n e) :
    becomeFree e.key s =
      { s.putEntry n { e with claim := e.freedClaim } with
        normal := restartLane s.station e s.normal } := by
  by_cases hroom : s.normal.length < 21
  · rw [becomeFree_at h hroom, State.freed]
    by_cases hwait : e.want = .wait <;> by_cases hactive : s.station = .active <;>
      simp [hwait, hactive, hroom, restartLane, Entry.freedClaim, State.putEntry]
  · have hfree := h.put { e with claim := .free } rfl
    have hentry : (s.putEntry n { e with claim := .free }).entry e.key = some { e with claim := .free } :=
      hfree.entry
    have hclaim : setClaim e.key (.asking none) (s.putEntry n { e with claim := .free }) =
        s.putEntry n { e with claim := .asking none } :=
      (setClaim_at hfree (.asking none)).trans (putEntry_putEntry _ _ _ _)
    have hrestart : restartAsk e.key (s.putEntry n { e with claim := .free }) =
        s.putEntry n { e with claim := .asking none } := by
      rw [restartAsk, startAsk, hclaim]
      by_cases hactive : s.station = .active <;>
        simp [State.putEntry, requestAsk, hactive, StationState.transmits, normalCapacity, hroom]
    simp only [becomeFree, setClaim_at h, hentry, hrestart]
    by_cases hwait : e.want = .wait <;> simp [hwait, hroom, restartLane, Entry.freedClaim, State.putEntry]

/-- What the orphan release for `p` does at one entry (R48). -/
def orphanRule (p : Addr) (station : StationState) : KeyRule where
  entry e := if e.names p then { e with claim := e.freedClaim } else e
  notice e := if e.names p then some (.freed e.key p .orphaned) else none
  urgent _ lane := lane
  normal e lane := if e.names p then restartLane station e lane else lane
  entry_key e := by split <;> rfl

/-- An entry that its own content takes the place of leaves the state. -/
theorem State.EntryAt.set_self {s : State} {n : Nat} {e : Entry} (h : s.EntryAt n e) :
    s.table.set n (some e) = s.table := by
  obtain ⟨hlt, hn⟩ := List.getElem?_eq_some_iff.mp h.1
  rw [← hn, List.set_getElem_self]

/-- The orphan release takes the key of an entry by what the entry names (R48). -/
theorem orphanKey_at {s : State} {n : Nat} {e : Entry} (h : s.EntryAt n e) (p : Addr) :
    orphanKey p e.key s =
      if e.names p then becomeFree e.key (produce (.freed e.key p .orphaned) s) else s := by
  cases hc : e.claim <;> simp [orphanKey, h.entry, Entry.names, hc]

/-- The orphan release is its rule at every key. -/
theorem orphanRule_describes (p : Addr) (station : StationState) :
    (orphanRule p station).Describes station (orphanKey p) where
  absent h := by simp only [orphanKey, h]
  present {n e s} hst h := by
    rw [orphanKey_at h]
    by_cases hnames : e.names p = true
    · have hat : (produce (.freed e.key p .orphaned) s).EntryAt n e := h.congr (produce_table _ s)
      rw [if_pos hnames, becomeFree_lane hat, produce_eq]
      simp [KeyRule.takenAt, orphanRule, hnames, hst, State.putEntry, produceAll]
    · rw [if_neg hnames]
      simp [KeyRule.takenAt, orphanRule, hnames, h.set_self, produceAll]

/-- The orphan release in one equation: the rule over every key in ascending order (R48). -/
theorem orphanRelease_eq {s : State} (h : s.TableLaw) (p : Addr) :
    orphanRelease p s = (orphanRule p s.station).over s.keysAscending s := by
  obtain ⟨-, hkeys, -⟩ := h
  exact (orphanRule_describes p s.station).overKeys_eq hkeys (nodup_keysAscending hkeys)

/-- The notices of the orphan release: one for each entry that names the station. -/
theorem orphanRule_notices (p : Addr) (station : StationState) (es : List Entry) :
    es.filterMap (orphanRule p station).notice =
      (es.filter (Entry.names p)).map fun e => .freed e.key p .orphaned := by
  induction es with
  | nil => rfl
  | cons e es ih =>
    rw [List.filterMap_cons, ih]
    by_cases hnames : e.names p = true <;> simp [orphanRule, hnames]

/-- In ACTIVE, with room for all, the restarted asks join the normal lane in the order of the entries (R37,
R48). -/
theorem orphanRule_normal_active (p : Addr) {es : List Entry} {lane : List NormalOrder}
    (hroom : lane.length + (es.filter (Entry.names p)).length ≤ 21) :
    es.foldl (fun l e => (orphanRule p .active).normal e l) lane =
      lane ++ ((es.filter (Entry.names p)).filter (·.want == .wait)).map fun e => .ask e.key := by
  induction es generalizing lane with
  | nil => simp
  | cons e es ih =>
    rw [List.foldl_cons]
    by_cases hnames : e.names p = true
    · rw [List.filter_cons_of_pos hnames] at hroom ⊢
      rw [List.length_cons] at hroom
      by_cases hwait : e.want = .wait
      · have hjoins : (orphanRule p .active).normal e lane = lane ++ [.ask e.key] := by
          have hlt : lane.length < 21 := by omega
          simp [orphanRule, hnames, restartLane, hwait, hlt]
        rw [hjoins, ih (by rw [List.length_append, List.length_singleton]; omega)]
        simp [hwait]
      · have hstays : (orphanRule p .active).normal e lane = lane := by simp [orphanRule, restartLane, hwait]
        rw [hstays, ih (by omega), List.filter_cons_of_neg (by simpa using hwait)]
    · have hstays : (orphanRule p .active).normal e lane = lane := by simp [orphanRule, hnames]
      rw [List.filter_cons_of_neg hnames] at hroom ⊢
      rw [hstays, ih hroom]

/-- Elsewhere no ask joins the normal lane (R37). -/
theorem orphanRule_normal_inactive (p : Addr) {station : StationState} (hst : station ≠ .active)
    (es : List Entry) (lane : List NormalOrder) :
    es.foldl (fun l e => (orphanRule p station).normal e l) lane = lane :=
  List.foldl_fixed' (fun e => by simp [orphanRule, restartLane, hst]) es

/-- Settles O39: the orphan release is its rule over the keys in ascending order, which gives every field. -/
theorem orphanReleaseFreesEveryClaimOfAPeer : Obligations.OrphanReleaseFreesEveryClaimOfAPeer := by
  intro s p hlaw named keys
  have hnamed : named = Entry.names p := by
    funext e; obtain ⟨k, w, g, c⟩ := e; cases c <;> rfl
  have hkeys : keys = ((s.keysAscending.filterMap s.entry).filter (Entry.names p)).map Entry.key := by
    rw [keys_filter]; simp only [keys, hnamed]; rfl
  have hwaiting : keys.filter (s.holdsAt (·.want == .wait)) =
      (((s.keysAscending.filterMap s.entry).filter (Entry.names p)).filter (·.want == .wait)).map Entry.key := by
    rw [hkeys, keys_filter, List.filter_filter, List.filter_filter, keys_filter, s.holdsAt_and]
  rw [orphanRelease_eq hlaw, hnamed]
  refine ⟨(orphanRule p s.station).over_keysAscending_table s, ?_, fun hactive hroom => ?_, fun hinactive => ?_,
    List.foldl_fixed _, rfl, rfl, rfl, rfl⟩
  · rw [hkeys, List.map_map]
    simp only [KeyRule.over, orphanRule_notices]
    rfl
  · rw [hkeys, List.length_map] at hroom
    show _ = s.normal ++ (keys.filter (s.holdsAt (·.want == .wait))).map .ask
    rw [hwaiting, List.map_map, hactive]
    exact orphanRule_normal_active p hroom
  · exact orphanRule_normal_inactive p hinactive _ _

/-! ### Self-expiry -/

/-- What self-expiry does at one entry (R50, R51): the HOLD order of a MINE entry gives way to FREE, an ask that is
sent is withdrawn on the line, one that is not loses its ASK order. -/
def expiryRule : KeyRule where
  entry := expiredEntry
  notice e := match e.claim with
    | .mine => some (.lost e.key .silent 0)
    | .asking _ => some (.refused e.key .silent 0)
    | _ => if e.want = .wait then some (.refused e.key .silent 0) else none
  urgent e lane := match e.claim with
    | .mine => placeState (.free e.key false) (lane.filter fun o => !o.isHoldOf e.key)
    | .asking (some _) => placeState (.free e.key true) lane
    | _ => lane
  normal e lane := match e.claim with
    | .asking _ => lane.filter fun o => !o.isAskOf e.key
    | _ => lane
  entry_key e := by cases hc : e.claim <;> simp only [expiredEntry, hc] <;> split <;> rfl

section ExpiryByEntryState

variable {s : State} {n : Nat} {e : Entry} (hst : s.station = .active) (h : s.EntryAt n e)
include hst h

/-- Self-expiry of a MINE entry (R50). -/
theorem selfExpireKey_mine (hc : e.claim = .mine) : selfExpireKey e.key s = expiryRule.takenAt n e s := by
  have htransmits : s.station.transmits = true := hst ▸ rfl
  have hproduce := produce_eq_of_congr (s := s) (t := s.putEntry n { e with claim := .free }) rfl rfl rfl
    (.lost e.key .silent 0)
  simp only [selfExpireKey, h.entry, hc, setClaim_at h, hproduce]
  rw [requestState_transmits (by exact htransmits)]
  simp [KeyRule.takenAt, expiryRule, expiredEntry, hc, produceAll, State.putEntry, removeHold]

/-- An ask taken back: its entry FREE, its ASK order gone, and FREE with the mark for a sent one (R41, R51). -/
theorem withdrawAsk_at (w : Option Time) :
    withdrawAsk e.key w s =
      { s.putEntry n { e with claim := .free } with
        normal := s.normal.filter fun o => !o.isAskOf e.key
        urgent := if w.isSome then placeState (.free e.key true) s.urgent else s.urgent } := by
  have htransmits : s.station.transmits = true := hst ▸ rfl
  have hclaim : setClaim e.key .free (removeAsk e.key s) =
      { s.putEntry n { e with claim := .free } with normal := s.normal.filter fun o => !o.isAskOf e.key } :=
    setClaim_at (h.congr (removeAsk_table _ _)) .free
  cases w with
  | none => simp [withdrawAsk, hclaim, State.putEntry]
  | some t =>
    simp only [withdrawAsk, hclaim, Option.isSome_some, if_true]
    exact requestState_transmits htransmits

/-- Self-expiry of an ASKING entry (R51). -/
theorem selfExpireKey_asking {w : Option Time} (hc : e.claim = .asking w) :
    selfExpireKey e.key s = expiryRule.takenAt n e s := by
  have hput : setWant e.key .none (withdrawAsk e.key w s) =
      { s.putEntry n { e with claim := .free, want := .none } with
        normal := s.normal.filter fun o => !o.isAskOf e.key
        urgent := if w.isSome then placeState (.free e.key true) s.urgent else s.urgent } := by
    have hat : (withdrawAsk e.key w s).EntryAt n { e with claim := .free } :=
      (h.put { e with claim := .free } rfl).congr (by rw [withdrawAsk_at hst h])
    refine (setWant_at hat .none).trans ?_
    rw [withdrawAsk_at hst h]
    simp [State.putEntry]
  simp only [selfExpireKey, h.entry, hc, hput]
  refine (produce_eq_of_congr (s := s) (by rfl) (by rfl) (by rfl) _).trans ?_
  cases w <;> simp [KeyRule.takenAt, expiryRule, expiredEntry, hc, produceAll, State.putEntry]

omit hst in
/-- Self-expiry of any other entry ends its waiting ask (R51). -/
theorem selfExpireKey_other (hmine : e.claim ≠ .mine) (hasking : ∀ w, e.claim ≠ .asking w) :
    selfExpireKey e.key s = expiryRule.takenAt n e s := by
  have hproduce := produce_eq_of_congr (s := s) (t := s.putEntry n { e with want := .none }) rfl rfl rfl
    (.refused e.key .silent 0)
  cases hc : e.claim with
  | mine => exact absurd hc hmine
  | asking w => exact absurd hc (hasking w)
  | free | peerAsking a d | theirs q =>
    by_cases hwait : e.want = .wait
    · simp only [selfExpireKey, h.entry, hc, hwait, if_true, setWant_at h]
      rw [← hc, hproduce]
      simp [KeyRule.takenAt, expiryRule, expiredEntry, hc, hwait, produceAll, State.putEntry]
    · simp [selfExpireKey, h.entry, KeyRule.takenAt, expiryRule, expiredEntry, hc, hwait, produceAll, h.set_self]

end ExpiryByEntryState

/-- In ACTIVE self-expiry is its rule at every key. -/
theorem expiryRule_describes : expiryRule.Describes .active selfExpireKey where
  absent h := by simp only [selfExpireKey, h]
  present {n e s} hst h := by
    cases hc : e.claim with
    | mine => exact selfExpireKey_mine hst h hc
    | asking w => exact selfExpireKey_asking hst h hc
    | free | peerAsking a d | theirs q => exact selfExpireKey_other h (by simp [hc]) (by simp [hc])

/-- The notices of self-expiry, one after another by key. -/
theorem expiryRule_notices (s : State) (ks : List Byte) :
    (ks.filterMap s.entry).filterMap expiryRule.notice = ks.filterMap (expiredNotice s) := by
  rw [List.filterMap_filterMap]
  refine List.filterMap_congr fun k _ => ?_
  rcases he : s.entry k with _ | e
  · simp [expiredNotice, he]
  · obtain rfl : e.key = k := findEntry_key he
    simp only [expiredNotice, he, Option.bind_some, expiryRule] <;> rfl

/-- The urgent lane behind self-expiry of one key (R50, R51). -/
def State.expiredUrgent (s : State) (k : Byte) (lane : List UrgentOrder) : List UrgentOrder :=
  match s.claimOf k with
  | some .mine => placeState (.free k false) (lane.filter fun o => !o.isHoldOf k)
  | some (.asking (some _)) => placeState (.free k true) lane
  | _ => lane

/-- The urgent lane behind self-expiry, one key after another. -/
theorem expiryRule_urgent (s : State) (ks : List Byte) (lane : List UrgentOrder) :
    (ks.filterMap s.entry).foldl (fun l e => expiryRule.urgent e l) lane =
      ks.foldl (fun l k => s.expiredUrgent k l) lane := by
  induction ks generalizing lane with
  | nil => rfl
  | cons k ks ih =>
    rcases he : s.entry k with _ | e
    · rw [List.filterMap_cons_none he, ih, List.foldl_cons]
      simp only [State.expiredUrgent, State.claimOf, he, Option.map_none]
    · obtain rfl : e.key = k := findEntry_key he
      rw [List.filterMap_cons_some he, List.foldl_cons, ih, List.foldl_cons]
      congr 1
      simp only [State.expiredUrgent, State.claimOf, he, Option.map_some, expiryRule]
      rcases e.claim with _ | _ | (_ | _) | _ | _ <;> rfl

/-- The entry is ASKING. -/
def Entry.isAsking (e : Entry) : Bool :=
  match e.claim with
  | .asking _ => true
  | _ => false

/-- Self-expiry of one entry takes the ASK order of an ASKING one out of the normal lane. -/
theorem expiryRule_normal_one (e : Entry) (lane : List NormalOrder) :
    expiryRule.normal e lane = lane.filter fun o => !(e.isAsking && o.isAskOf e.key) := by
  cases hc : e.claim <;> simp [expiryRule, Entry.isAsking, hc]

/-- Self-expiry takes the ASK orders of the ASKING entries out of the normal lane. -/
theorem expiryRule_normal (es : List Entry) (lane : List NormalOrder) :
    es.foldl (fun l e => expiryRule.normal e l) lane =
      lane.filter fun o => es.all fun e => !(e.isAsking && o.isAskOf e.key) := by
  induction es generalizing lane with
  | nil => simp
  | cons e es ih =>
    rw [List.foldl_cons, ih, expiryRule_normal_one, List.filter_filter]
    simp only [List.all_cons, Bool.and_comm]

/-- Where ASK orders stand for ASKING entries alone, self-expiry takes every one out of the normal lane (R51). -/
theorem expiryRule_normal_all {s : State} (hlane : s.LaneLaw) :
    (s.keysAscending.filterMap s.entry).foldl (fun l e => expiryRule.normal e l) s.normal =
      s.normal.filter fun o => o.askKey.isNone := by
  obtain ⟨-, -, -, -, -, hasks, -⟩ := hlane
  rw [expiryRule_normal]
  refine List.filter_congr fun o ho => ?_
  cases o with
  | ask k =>
    obtain ⟨e, he, hc⟩ := Option.map_eq_some_iff.mp (hasks k ho)
    have hmem : e ∈ s.keysAscending.filterMap s.entry :=
      List.mem_filterMap.mpr ⟨k, (mem_keysAscending k s).mpr (by rw [he]; rfl), he⟩
    have hkey : e.key = k := findEntry_key he
    exact List.all_eq_false.mpr ⟨e, hmem, by simp [Entry.isAsking, hc, NormalOrder.isAskOf, hkey]⟩
  | presence leaving => exact List.all_eq_true.mpr fun e _ => by simp [NormalOrder.isAskOf]
  | post p => exact List.all_eq_true.mpr fun e _ => by simp [NormalOrder.isAskOf]

/-- Self-expiry in one equation: its rule over the keys in ascending order; the law of the lanes gives that the ASK
orders it takes away are all there are (R50, R51). -/
theorem selfExpiry_eq {s : State} (hst : s.station = .active) (htable : s.TableLaw) (hlane : s.LaneLaw) :
    selfExpiry s =
      { s with
        table := s.table.map fun place => place.map expiredEntry
        urgent := s.keysAscending.foldl (fun l k => s.expiredUrgent k l) s.urgent
        normal := s.normal.filter fun o => o.askKey.isNone
        notices := (produceAll (s.keysAscending.filterMap (expiredNotice s)) s).notices
        counters := (produceAll (s.keysAscending.filterMap (expiredNotice s)) s).counters } := by
  obtain ⟨-, hkeys, -⟩ := htable
  have hrule : expiryRule.Describes s.station selfExpireKey := hst ▸ expiryRule_describes
  have hover : selfExpiry s = expiryRule.over s.keysAscending s :=
    hrule.overKeys_eq hkeys (nodup_keysAscending hkeys)
  rw [hover, KeyRule.over_keysAscending]
  simp only [KeyRule.over, expiryRule_notices, expiryRule_urgent, expiryRule_normal_all hlane]
  rfl

/-- Settles O53: the count restarts, which leaves all that self-expiry reads; in ACTIVE self-expiry follows. -/
theorem silenceCountDropsTheOwnClaims : Obligations.SilenceCountDropsTheOwnClaims := by
  intro s x hreset hcount
  let restarted : State := { s with own := { s.own with silence := some 0 } }
  have hexec : exec .silenceCountExpiry s = .next (refreshAccess (silenceDue s)) := live_eq hreset
  have hdue : silenceDue s = if s.station = .active then selfExpiry restarted else restarted := by
    simp only [silenceDue, hcount, restarted]
  refine ⟨fun hinactive hfollows => ?_, fun hactive htable hlane => ?_⟩
  · rw [hexec, hdue, if_neg hinactive]
    exact hfollows.next_eq rfl rfl rfl rfl
  · obtain ⟨hnotices, hcounters⟩ := produceAll_congr (s := s) (t := restarted) rfl rfl rfl
      (restarted.keysAscending.filterMap (expiredNotice restarted))
    rw [hexec, hdue, if_pos hactive, selfExpiry_eq (s := restarted) hactive htable hlane, hnotices, hcounters]
    rfl

end Sys2Proof.Machine

/-! The listen expiry: the asks that LISTENING held join the normal lane in ascending order of key (R20, R75). -/

namespace Sys2Proof.Machine

/-- The key's ask has not been sent: its entry is ASKING with no window running (R18, R20). -/
def State.askUnsent (s : State) (k : Byte) : Bool := s.claimOf k == some (.asking none)

/-- Whether a key's ask is unsent is read from the table alone. -/
theorem askUnsent_congr {s t : State} (h : t.table = s.table) : t.askUnsent = s.askUnsent := by
  funext k
  simp only [State.askUnsent, State.claimOf, State.entry, h]

/-- A key whose ask is not held places nothing (R75). -/
theorem placeHeld_of_not_unsent {s : State} {k : Byte} (h : s.askUnsent k = false) : placeHeld k s = s := by
  cases he : s.entry k with
  | none => simp only [placeHeld, he]
  | some e =>
    have hclaim : e.claim ≠ .asking none := by simpa [State.askUnsent, State.claimOf, he] using h
    rcases hc : e.claim with _ | _ | (_ | t) | _ | _
    case asking.none => exact absurd hc hclaim
    all_goals simp only [placeHeld, he, hc]

/-- A held ask places its order at the tail of a normal lane with room (R20, R75). -/
theorem placeHeld_of_unsent {s : State} {k : Byte} (h : s.askUnsent k = true) (hst : s.station.transmits = true)
    (hroom : s.normal.length < 21) : placeHeld k s = { s with normal := s.normal ++ [.ask k] } := by
  obtain ⟨e, he, hc⟩ : ∃ e, s.entry k = some e ∧ e.claim = .asking none := by
    simpa [State.askUnsent, State.claimOf] using h
  simp [placeHeld, he, hc, requestAsk, hst, normalCapacity, hroom]

/-- Taken key by key, the held asks join the tail of the normal lane in the order of the keys: placing one changes
no entry, so which asks are held is settled before the first is placed. -/
theorem overKeys_placeHeld {s : State} {ks : List Byte} (hst : s.station.transmits = true)
    (hroom : s.normal.length + (ks.filter s.askUnsent).length ≤ 21) :
    overKeys placeHeld ks s = { s with normal := s.normal ++ (ks.filter s.askUnsent).map .ask } := by
  induction ks generalizing s with
  | nil => simp [overKeys]
  | cons k ks ih =>
    have hcons : overKeys placeHeld (k :: ks) s = overKeys placeHeld ks (placeHeld k s) := rfl
    cases hk : s.askUnsent k with
    | false =>
      rw [List.filter_cons_of_neg (by simp [hk])] at hroom ⊢
      rw [hcons, placeHeld_of_not_unsent hk, ih hst hroom]
    | true =>
      rw [List.filter_cons_of_pos hk, List.length_cons] at hroom
      let placed : State := { s with normal := s.normal ++ [.ask k] }
      have hplaced : placeHeld k s = placed := placeHeld_of_unsent hk hst (by omega)
      have hsame : placed.askUnsent = s.askUnsent := askUnsent_congr rfl
      have hroom' : placed.normal.length + (ks.filter placed.askUnsent).length ≤ 21 := by
        rw [hsame, List.length_append, List.length_singleton]; omega
      rw [hcons, hplaced, ih (s := placed) hst hroom', hsame, List.filter_cons_of_pos hk, List.map_cons,
        List.append_cons]

/-- The listen expiry in one equation: in LISTENING with the timer running, and with room for the held asks (R75). -/
theorem listenExpires_eq {s : State} {x : Time} (hst : s.station = .listening) (hlisten : s.own.listen = some x)
    (hrun : s.monitor.timersRun = true)
    (hroom : s.normal.length + (s.keysAscending.filter s.askUnsent).length ≤ 21) :
    listenExpires s =
      { produce (.joined s.presentPeers) { s with station := .active, own := { s.own with listen := none } } with
        normal := s.normal ++ (s.keysAscending.filter s.askUnsent).map .ask } := by
  let active : State := { s with station := .active, own := { s.own with listen := none } }
  let joined : State := produce (.joined s.presentPeers) active
  have htable : joined.table = s.table := produce_table _ active
  have hnormal : joined.normal = s.normal := produce_normal _ active
  have hstation : joined.station = .active := produce_station _ active
  have hkeys : joined.keysAscending = s.keysAscending := by simp only [State.keysAscending, htable]
  have hexpires : listenExpires s = overKeys placeHeld joined.keysAscending joined := by
    simp only [listenExpires, hlisten, hst, hrun, and_self, if_true]
    rfl
  have hheld : joined.askUnsent = s.askUnsent := askUnsent_congr htable
  rw [hexpires, hkeys, overKeys_placeHeld (by rw [hstation]; rfl) (by rw [hnormal, hheld]; exact hroom), hheld,
    hnormal]

/-- Settles O49: the row is the listen expiry, whose own equation gives the state; the room in the lane is the
statement's. -/
theorem listenExpiryMakesTheStationActive : Obligations.ListenExpiryMakesTheStationActive := by
  intro s x hreset hst hlisten hrun _ held hroom
  have hexec : exec .listenExpiry s = .next (refreshAccess (listenExpires s)) := live_eq hreset
  rw [hexec, listenExpires_eq hst hlisten hrun hroom]
  rfl

end Sys2Proof.Machine

/-! A state order joins the urgent lane: at the tail, or in the place of the queued state order of its key (R117). -/

namespace Sys2Proof.Machine

/-- The state orders of a key are its HOLD and its FREE, with the withdrawn mark or without (R115). -/
theorem isStateOf_iff {k : Byte} {x : UrgentOrder} :
    x.isStateOf k = true ↔ x = .hold k ∨ ∃ w, x = .free k w := by
  cases x <;> simp [UrgentOrder.isStateOf]

/-- An order is no state order of the key when it is neither its HOLD nor a FREE of it. -/
theorem isStateOf_eq_false_iff {k : Byte} {x : UrgentOrder} :
    x.isStateOf k = false ↔ x ≠ .hold k ∧ ∀ w, x ≠ .free k w := by
  rw [← Bool.not_eq_true, isStateOf_iff, not_or, not_exists]

/-- A state order of a key carries that key. -/
theorem key_of_isStateOf {k : Byte} {o : UrgentOrder} (h : o.isStateOf k = true) : o.key = k := by
  obtain rfl | ⟨w, rfl⟩ := isStateOf_iff.mp h <;> rfl

/-- A queued HOLD gives its place to the request as it is (R117). -/
theorem mergeState_hold (k : Byte) (o : UrgentOrder) : mergeState (.hold k) o = o := rfl

/-- A queued FREE gives its place to a requested HOLD, its mark lost (R117). -/
theorem mergeState_free_hold (k j : Byte) (old : Bool) : mergeState (.free k old) (.hold j) = .hold j := rfl

/-- A FREE over a FREE keeps the withdrawn mark of either (R117). -/
theorem mergeState_free_free (k j : Byte) (old w : Bool) :
    mergeState (.free k old) (.free j w) = .free j (old || w) := rfl

section StateOrderRequest

variable {s : State} {o : UrgentOrder} {k : Byte} (ht : s.station.transmits = true) (ho : o.isStateOf k = true)
include ht ho

/-- A state order request joins the tail of a lane without a state order for its key (R117). -/
theorem requestState_tail (hnone : ∀ x ∈ s.urgent, x.isStateOf k = false) :
    requestState o s = { s with urgent := s.urgent ++ [o] } := by
  obtain rfl := key_of_isStateOf ho
  rw [requestState_transmits ht, placeState_tail hnone]

/-- A state order request merges into the first state order queued for its key, in its place (R117). -/
theorem requestState_place {x : UrgentOrder} {pre post : List UrgentOrder}
    (hpre : ∀ y ∈ pre, y.isStateOf k = false) (hx : x.isStateOf k = true) (hlane : s.urgent = pre ++ x :: post) :
    requestState o s = { s with urgent := pre ++ mergeState x o :: post } := by
  obtain rfl := key_of_isStateOf ho
  rw [requestState_transmits ht, hlane, placeState_place hpre hx]

end StateOrderRequest

/-- Settles O19: the lane without a state order for the key takes the request at its tail; the lane with one merges
the two in its place, and each clause is one row of the merge. -/
theorem stateOrderTakesOverItsPlace : Obligations.StateOrderTakesOverItsPlace := by
  intro s o k ht ho
  have hstate : o.isStateOf k = true := isStateOf_iff.mpr ho
  refine ⟨fun hnone => ?_, requestState_transmits ht, fun pre post hpre => ?_⟩
  · exact requestState_tail ht hstate fun x hx => isStateOf_eq_false_iff.mpr (hnone x hx)
  · have hbefore : ∀ y ∈ pre, y.isStateOf k = false := fun y hy => isStateOf_eq_false_iff.mpr (hpre y hy)
    refine ⟨fun hheld => ?_, fun old hfree => ⟨fun hhold => ?_, fun w hw => ?_⟩⟩
    · rw [requestState_place ht hstate hbefore (isStateOf_iff.mpr (.inl rfl)) hheld, mergeState_hold]
    · rw [requestState_place ht hstate hbefore (isStateOf_iff.mpr (.inr ⟨old, rfl⟩)) hfree, hhold,
        mergeState_free_hold]
    · rw [requestState_place ht hstate hbefore (isStateOf_iff.mpr (.inr ⟨old, rfl⟩)) hfree, hw,
        mergeState_free_free]

end Sys2Proof.Machine

/-! The rotation: rank and slot of a station with an address (R129). -/

namespace Sys2Proof.Machine

/-- A station's address is one of 1..31 (R129). -/
theorem addr_bounds {a : Addr} (h : a ≠ 0) : 1 ≤ a.toNat ∧ a.toNat ≤ 31 :=
  ⟨Nat.pos_of_ne_zero (BitVec.toNat_ne.mp h), Nat.le_of_lt_succ a.isLt⟩

/-- The model's rank on the naturals is the spec's remainder: it adds 61 = 2 · 31 - 1, so that the difference of the
addresses never falls below zero (R129). -/
theorem State.rank_eq_emod (s : State) :
    (s.rank : Int) = ((s.ownAddr.toNat : Int) - (s.lastSource.toNat : Int) - 1) % 31 := by
  have hlast := s.lastSource.isLt
  rw [State.rank]
  omega

/-- There are 31 ranks, 0 to 30 (R129). -/
theorem State.rank_le (s : State) : s.rank ≤ 30 :=
  Nat.le_of_lt_succ (Nat.mod_lt _ (by decide))

/-- With no last source, the rotation begins at address 1 (R129). -/
theorem State.rank_of_lastSource_zero {s : State} (hown : s.ownAddr ≠ 0) (hlast : s.lastSource = 0) :
    s.rank = s.ownAddr.toNat - 1 := by
  have hrank := s.rank_eq_emod
  have hbounds := addr_bounds hown
  have hzero : s.lastSource.toNat = 0 := hlast ▸ rfl
  rw [hzero] at hrank
  omega

/-- The station that was last source comes last in the rotation (R129). -/
theorem State.rank_of_lastSource_own {s : State} (hlast : s.lastSource = s.ownAddr) : s.rank = 30 := by
  have hrank := s.rank_eq_emod
  rw [hlast] at hrank
  omega

/-- The addresses 1..31 leave 31 different remainders: for one last source, a rank belongs to one address (R129). -/
theorem State.ownAddr_eq_of_rank_eq {s t : State} (hs : s.ownAddr ≠ 0) (ht : t.ownAddr ≠ 0)
    (hlast : t.lastSource = s.lastSource) (hrank : t.rank = s.rank) : t.ownAddr = s.ownAddr := by
  have hsrank := s.rank_eq_emod
  have htrank := t.rank_eq_emod
  rw [hrank, hlast] at htrank
  have hsbounds := addr_bounds hs
  have htbounds := addr_bounds ht
  exact BitVec.eq_of_toNat_eq (by omega)

/-- The slot is the frame gap of 12 bit times and the rank: it lies in 12..42 (R129). -/
theorem State.slot_bounds (s : State) : s.slot = 12 + s.rank ∧ 12 ≤ s.slot ∧ s.slot ≤ 42 := by
  have hslot : s.slot = 12 + s.rank := rfl
  have hrank := s.rank_le
  exact ⟨hslot, by omega, by omega⟩

/-- Settles O43: the rank is the remainder of R129, the slot follows from its bounds, and equal ranks for one last
source give equal addresses. -/
theorem rankAndSlot : Obligations.RankAndSlot := by
  intro s hs
  obtain ⟨hslot, hlow, hhigh⟩ := s.slot_bounds
  refine ⟨s.rank_eq_emod, hslot, hlow, hhigh, rfl, State.rank_of_lastSource_zero hs, State.rank_of_lastSource_own,
    fun t ht hlast hne hrank => ?_⟩
  exact hne (State.ownAddr_eq_of_rank_eq hs ht hlast hrank)

end Sys2Proof.Machine

/-! Station Control (chapter 9): the checks of ESTABLISH (R148), LEAVE (R151), the leave limit and entry to OFFLINE
(R152, R153), RESTART (R156), and COUNTERS with its bank (R178, R179). -/

namespace Sys2Proof.Machine

/-! ### Command records on an idle port -/

/-- A record given while the Result Slot is full is refused and counted, whatever its command (R170). -/
theorem commandTransaction_refused {s : State} (h : s.PortIdle) {r : List Byte} (hr : s.result = some r)
    (code : Byte) (fields : List Byte) :
    commandTransaction (code :: fields) s =
      { s.clocked (fields.length + 1) with refused := true, counters := s.counters.bump .commandsRefused } := by
  obtain ⟨-, hport⟩ := h
  have hsdo : sentBytes s.status0 s.status1 [] (fields.length + 1 + 1) =
      [s.status0, s.status1] ++ List.replicate (fields.length + 1 - 1) 0 := sentBytes_command _ _ _
  have hboth : 2 ≤ fields.length + 1 + 1 := by omega
  have hrecord : (code :: fields).take 32 = code :: fields.take 31 := rfl
  simp only [commandTransaction, hport, endCommand, List.length_cons, clearSticky, status0_refused,
    status0_portError, stickyAfter_shown, hsdo, hboth, hrecord, takeRecord, hr, Option.isSome_some, if_true,
    decide_true, Bool.not_true, Bool.and_false, State.clocked, count]

/-- A record of at most 32 bytes given while the Result Slot is empty is its owner's command (R170). -/
theorem live_command_taken {s : State} (h : s.TakesCommands) (code : Byte) (fields : List Byte)
    (hl : fields.length ≤ 31) :
    live (commandTransaction (code :: fields)) s =
      .next (refreshAccess (ownerTakes code fields (s.clocked (fields.length + 1)))) := by
  rw [live_eq h.1.1, commandTransaction_taken h code fields hl]

/-- A command row given while the Result Slot is full has no effect beside its refusal (R170). -/
theorem live_command_refused {s : State} (h : s.PortIdle) {r : List Byte} (hr : s.result = some r)
    (hfollows : s.AccessFollows) (code : Byte) (fields : List Byte) :
    live (commandTransaction (code :: fields)) s = .next
      { s.clocked (fields.length + 1) with refused := true, counters := s.counters.bump .commandsRefused } := by
  rw [live_eq h.1]
  exact hfollows.next_eq (commandTransaction_refused h hr code fields) rfl rfl rfl

/-! ### ESTABLISH -/

/-- ESTABLISH with its five fields, taken on an idle port, is the owner's command (R148, R170). -/
theorem exec_establish {s : State} (h : s.TakesCommands) (su w retry mask bcast : Byte) :
    exec (.establish [su, w, retry, mask, bcast]) s =
      .next (refreshAccess (establishCommand su w retry mask bcast (s.clocked 6))) :=
  live_command_taken h cmdEstablish [su, w, retry, mask, bcast] (by simp)

/-- The minimum window is the row of the line rate in the table of R148. -/
theorem minimumWindow_le_iff (rate : BitVec 2) (n : Nat) :
    minimumWindow rate ≤ n ↔
      (rate = 0 → 21 ≤ n) ∧ (rate = 1 → 11 ≤ n) ∧ (rate = 2 → 6 ≤ n) ∧ (rate = 3 → 3 ≤ n) := by
  obtain rfl | rfl | rfl | rfl : rate = 0 ∨ rate = 1 ∨ rate = 2 ∨ rate = 3 := by
    revert rate; decide
  all_goals simp [minimumWindow]

/-- No line rate allows a window of 0 (R148). -/
theorem minimumWindow_pos (rate : BitVec 2) : 1 ≤ minimumWindow rate := by
  revert rate; decide

/-- The model's range check of ESTABLISH is the one of R148. -/
theorem configInRange_iff (rate : BitVec 2) (su w retry mask bcast : Byte) :
    configInRange rate su w retry mask bcast = true ↔ EstablishInRange rate su w retry mask bcast := by
  have hpos := minimumWindow_pos rate
  have hwindow := minimumWindow_le_iff rate w.toNat
  simp only [configInRange, Bool.and_eq_true, decide_eq_true_eq]
  constructor
  · rintro ⟨⟨⟨⟨⟨⟨⟨hsu, -⟩, hmin⟩, hratio⟩, hretry⟩, hretry'⟩, hmask⟩, hbcast⟩
    obtain ⟨h0, h1, h2, h3⟩ := hwindow.mp hmin
    exact ⟨hsu, h0, h1, h2, h3, hratio, hretry, hretry', hmask, hbcast⟩
  · rintro ⟨hsu, h0, h1, h2, h3, hratio, hretry, hretry', hmask, hbcast⟩
    have hmin := hwindow.mpr ⟨h0, h1, h2, h3⟩
    exact ⟨⟨⟨⟨⟨⟨⟨hsu, hpos.trans hmin⟩, hmin⟩, hratio⟩, hretry⟩, hretry'⟩, hmask⟩, hbcast⟩

/-- Settles O13: each clause takes the branch of the command at its own check; an answer touches neither the lanes
nor the access state. -/
theorem establishChecksInOrder : Obligations.EstablishChecksInOrder := by
  intro s su w retry mask bcast htakes hfollows
  have hrange := configInRange_iff s.rate su w retry mask bcast
  have hunused (hfree : s.addrInUse = false) : ¬ (s.clocked 6).addrInUse = true := Bool.eq_false_iff.mp hfree
  rw [exec_establish htakes]
  refine ⟨fun hzero => ?_, fun haddr hused => ?_, fun haddr hfree hout => ?_, fun haddr hfree hin hst => ?_⟩
  · exact hfollows.next_eq (if_pos hzero) rfl rfl rfl
  · exact hfollows.next_eq ((if_neg haddr).trans (if_pos hused)) rfl rfl rfl
  · have hbad : (!configInRange s.rate su w retry mask bcast) = true := by
      rw [Bool.eq_false_iff.mpr (mt hrange.mp hout), Bool.not_false]
    exact hfollows.next_eq ((if_neg haddr).trans ((if_neg (hunused hfree)).trans (if_pos hbad))) rfl rfl rfl
  · have hgood : ¬ (!configInRange s.rate su w retry mask bcast) = true := by
      rw [hrange.mpr hin, Bool.not_true]; exact Bool.false_ne_true
    exact hfollows.next_eq
      ((if_neg haddr).trans ((if_neg (hunused hfree)).trans ((if_neg hgood).trans (if_pos hst)))) rfl rfl rfl

/-! ### LEAVE -/

/-- LEAVE, taken on an idle port, is the owner's command (R151, R170). -/
theorem exec_leave {s : State} (h : s.TakesCommands) :
    exec (.leave []) s = .next (refreshAccess (leaveCommand (s.clocked 1))) :=
  live_command_taken h cmdLeave [] (by simp)

/-- What LEAVE does at one entry (R151): a MINE entry places FREE, an ask that is sent is withdrawn on the line, an
ASKING entry loses its ASK order as in self-expiry (R51). -/
def leaveRule : KeyRule where
  entry := leftEntry
  notice _ := none
  urgent e lane := match e.claim with
    | .mine => placeState (.free e.key false) lane
    | .asking (some _) => placeState (.free e.key true) lane
    | _ => lane
  normal := expiryRule.normal
  entry_key _ := rfl

section LeaveByEntryState

variable {s : State} {n : Nat} {e : Entry} (hst : s.station.transmits = true) (h : s.EntryAt n e)
include hst h

/-- RELEASE or LEAVE of a MINE entry at its number (R40). -/
theorem releaseMine_at :
    releaseMine e.key s =
      { s.putEntry n { e with claim := .free, want := .none } with
        urgent := placeState (.free e.key false) s.urgent } := by
  have hfree : (s.putEntry n { e with claim := .free }).EntryAt n { e with claim := .free } := h.put _ rfl
  have hwant : setWant e.key .none (s.putEntry n { e with claim := .free }) =
      s.putEntry n { e with claim := .free, want := .none } :=
    (setWant_at hfree .none).trans (putEntry_putEntry _ _ _ _)
  rw [releaseMine, setClaim_at h, hwant]
  exact requestState_transmits hst

/-- RELEASE or LEAVE of an ASKING entry at its number: its ASK order goes, and an ask that was sent places FREE with
the mark (R41). -/
theorem releaseAsking_at (w : Option Time) :
    releaseAsking e.key w s =
      { s.putEntry n { e with claim := .free, want := .none } with
        normal := s.normal.filter fun o => !o.isAskOf e.key
        urgent := if w.isSome then placeState (.free e.key true) s.urgent else s.urgent } := by
  let freed : State :=
    { s.putEntry n { e with claim := .free } with normal := s.normal.filter fun o => !o.isAskOf e.key }
  let withdrawn : State :=
    { freed with urgent := if w.isSome then placeState (.free e.key true) s.urgent else s.urgent }
  have hfreed : setClaim e.key .free (removeAsk e.key s) = freed :=
    setClaim_at (h.congr (removeAsk_table _ _)) .free
  have hwithdrawn : withdrawAsk e.key w s = withdrawn := by
    rw [withdrawAsk, hfreed]
    cases w with
    | none => rfl
    | some t => exact requestState_transmits hst
  have hat : withdrawn.EntryAt n { e with claim := .free } := (h.put { e with claim := .free } rfl).congr rfl
  rw [releaseAsking, hwithdrawn, setWant_at hat]
  simp [withdrawn, freed, State.putEntry]

/-- LEAVE of one entry is the rule at its number (R151). -/
theorem leaveKey_at : leaveKey e.key s = leaveRule.takenAt n e s := by
  cases hc : e.claim with
  | mine =>
    simp [leaveKey, h.entry, hc, releaseMine_at hst h, KeyRule.takenAt, leaveRule, leftEntry, expiryRule, produceAll,
      State.putEntry]
  | asking w =>
    simp only [leaveKey, h.entry, hc, releaseAsking_at hst h]
    cases w <;> simp [KeyRule.takenAt, leaveRule, leftEntry, expiryRule, hc, produceAll, State.putEntry]
  | free | peerAsking a d | theirs q =>
    simp [leaveKey, h.entry, hc, setWant_at h, KeyRule.takenAt, leaveRule, leftEntry, expiryRule, produceAll,
      State.putEntry]

end LeaveByEntryState

/-- While the station transmits LEAVE is its rule at every key. -/
theorem leaveRule_describes {station : StationState} (hst : station.transmits = true) :
    leaveRule.Describes station leaveKey where
  absent h := by simp only [leaveKey, h]
  present hstation h := leaveKey_at (hstation ▸ hst) h

/-- LEAVE produces no notice for an entry. -/
theorem leaveRule_notices (es : List Entry) : es.filterMap leaveRule.notice = [] :=
  List.filterMap_eq_nil_iff.mpr fun _ _ => rfl

/-- The urgent lane behind LEAVE: the FREE orders of the entries, placed one key after another (R40, R41). -/
theorem leaveRule_urgent (s : State) (ks : List Byte) (lane : List UrgentOrder) :
    (ks.filterMap s.entry).foldl (fun l e => leaveRule.urgent e l) lane =
      (ks.filterMap (leaveOrder s)).foldl (fun l o => placeState o l) lane := by
  induction ks generalizing lane with
  | nil => rfl
  | cons k ks ih =>
    rcases he : s.entry k with _ | e
    · have horder : leaveOrder s k = none := by simp [leaveOrder, State.claimOf, he]
      rw [List.filterMap_cons_none he, List.filterMap_cons_none horder, ih]
    · obtain rfl : e.key = k := findEntry_key he
      rw [List.filterMap_cons_some he, List.foldl_cons, ih]
      rcases hc : e.claim with _ | _ | (_ | t) | _ | _ <;>
        simp [leaveRule, leaveOrder, State.claimOf, he, hc]

/-- The MINE entries counted (R151). -/
theorem mineCount_eq (t : List (Option Entry)) :
    mineCount t = t.countP fun place => (place.map Entry.claim) == some .mine := by
  refine List.countP_congr fun place _ => ?_
  cases place <;> simp

/-- The PRESENCE and ASK orders away, the posts are what stays of a normal lane (R115). -/
theorem filter_isPost (lane : List NormalOrder) :
    (lane.filter fun o => o.askKey.isNone).filter (fun o => !o.isPresence) = lane.filter NormalOrder.isPost := by
  rw [List.filter_filter]
  refine List.filter_congr fun o _ => ?_
  cases o <;> rfl

/-- What an accepted LEAVE does, in one equation: its rule over the keys in ascending order; the law of the lanes
gives that the ASK orders it takes away are all there are (R151). -/
theorem leaveAccepted_eq {s : State} (hst : s.station.transmits = true) (htable : s.TableLaw)
    (hlane : s.LaneLaw) :
    leaveAccepted s =
      { s with
        table := s.table.map fun place => place.map leftEntry
        urgent := (s.keysAscending.filterMap (leaveOrder s)).foldl (fun l o => placeState o l) s.urgent
        normal := (s.normal.filter NormalOrder.isPost) ++ [.presence true]
        own := { s.own with listen := none }
        leaveLimit := some s.halfSilence
        station := .leaving } := by
  obtain ⟨-, hkeys, -⟩ := htable
  let left : State :=
    { s with
      table := s.table.map fun place => place.map leftEntry
      urgent := (s.keysAscending.filterMap (leaveOrder s)).foldl (fun l o => placeState o l) s.urgent
      normal := s.normal.filter fun o => o.askKey.isNone }
  have hleft : overKeys leaveKey s.keysAscending s = left := by
    have hnormal : (s.keysAscending.filterMap s.entry).foldl (fun l e => leaveRule.normal e l) s.normal =
        s.normal.filter fun o => o.askKey.isNone := expiryRule_normal_all hlane
    rw [(leaveRule_describes hst).overKeys_eq hkeys (nodup_keysAscending hkeys), KeyRule.over_keysAscending]
    simp only [KeyRule.over, leaveRule_notices, leaveRule_urgent, hnormal]
    rfl
  have hleaving : requestLeaving { left with own := { left.own with listen := none } } =
      { left with
        own := { s.own with listen := none }
        normal := (s.normal.filter NormalOrder.isPost) ++ [.presence true] } := by
    rw [← filter_isPost]
    exact if_pos hst
  simp only [leaveAccepted, hleft, hleaving]
  rfl

/-- Settles O22: LEAVE is accepted in the states of the first clause, with the whole state by `leaveAccepted_eq`, and
answered WRONG_STATE in the others. -/
theorem leaveReleasesEverything : Obligations.LeaveReleasesEverything := by
  intro s htakes
  rw [exec_leave htakes]
  refine ⟨fun hst htable _ hlane => ?_, fun hlistening hactive hfollows => ?_⟩
  · have haccepts : (s.clocked 1).station.takesAsk = true := (StationState.takesAsk_iff s.station).mpr hst
    have htransmits : (s.clocked 1).station.transmits = true := by
      rcases hst with hst | hst <;> exact (congrArg StationState.transmits hst).trans rfl
    rw [leaveCommand, if_pos haccepts, leaveAccepted_eq htransmits htable hlane, mineCount_eq]
    rfl
  · have hrefuses : ¬ (s.clocked 1).station.takesAsk = true := fun haccepts =>
      ((StationState.takesAsk_iff s.station).mp haccepts).elim hlistening hactive
    exact hfollows.next_eq (if_neg hrefuses) rfl rfl rfl

/-! ### Entry to OFFLINE -/

/-- Giving up posts is producing their POST_ABANDONED in order (R125, R126). -/
theorem abandonPosts_eq (ps : List Post) (s : State) :
    abandonPosts ps s = produceAll (ps.map fun p => .postAbandoned p.tag) s := by
  rw [produceAll, List.foldl_map]
  rfl

/-- The end of transmission: the lanes and the attempt are gone, and each post is abandoned (R125, R126, R142). -/
theorem stopTransmitting_eq (s : State) :
    stopTransmitting s =
      { s with
        urgent := [], normal := [], access := .off, driveFaults := 0
        notices := (produceAll (s.givenUp.map fun p => .postAbandoned p.tag) s).notices
        counters := (produceAll (s.givenUp.map fun p => .postAbandoned p.tag) s).counters } := by
  let stopped : State := { s with urgent := [], normal := [], access := .off, driveFaults := 0 }
  obtain ⟨hnotices, hcounters⟩ := produceAll_congr (s := s) (t := stopped) rfl rfl rfl
    (s.givenUp.map fun p => .postAbandoned p.tag)
  rw [stopTransmitting, abandonPosts_eq, produceAll_eq, hnotices, hcounters]

/-- Entry to OFFLINE in one equation: the rest of the entry changes nothing that a notice reads, so POST_ABANDONED
and LEFT go to the queue as the station found it (R153). -/
theorem enterOffline_eq (reason : LeftReason) (s : State) : enterOffline reason s = wentOffline reason s := by
  let leaving : State := { s with station := .offline, leaveLimit := none }
  let abandoned : State := produceAll (s.givenUp.map fun p => .postAbandoned p.tag) s
  obtain ⟨hnotices, hcounters⟩ := produceAll_congr (s := s) (t := leaving) rfl rfl rfl
    (s.givenUp.map fun p => .postAbandoned p.tag)
  have hstopped : stopTransmitting leaving =
      { leaving with
        urgent := [], normal := [], access := .off, driveFaults := 0
        notices := abandoned.notices, counters := abandoned.counters } := by
    rw [stopTransmitting_eq, ← hnotices, ← hcounters]
    rfl
  have hleft := produce_eq_of_congr (s := abandoned)
    (t := dropOwn { stopTransmitting leaving with table := List.replicate 16 none, roster := List.replicate 32 none })
    (by rw [hstopped]; exact (produceAll_config _ s).symm) (by rw [hstopped]; rfl) (by rw [hstopped]; rfl)
    (.left reason)
  have hall : produceAll ((s.slotPost.toList ++ lanePosts s.normal).map (fun p => .postAbandoned p.tag) ++
      [.left reason]) s = produce (.left reason) abandoned := produceAll_append _ _ s
  rw [wentOffline, hall]
  refine hleft.trans ?_
  rw [hstopped]
  rfl

/-- Settles O50: the row enters OFFLINE while a leave limit stands, and the entry is `enterOffline_eq`; an Access
Engine that is OFF has nothing to follow. -/
theorem leaveLimitEntersOffline : Obligations.LeaveLimitEntersOffline := by
  refine ⟨fun s hreset hlimit => ?_, fun s reason => enterOffline_eq reason s⟩
  have hexec : exec .leaveLimitExpiry s = .next (refreshAccess (leaveLimitExpires s)) := live_eq hreset
  rw [hexec, leaveLimitExpires, if_pos hlimit, enterOffline_eq]
  rfl

/-! ### RESTART and COUNTERS -/

/-- RESTART, taken on an idle port, is the owner's command, and leaves the Access Engine OFF (R156, R170). -/
theorem exec_restart {s : State} (h : s.TakesCommands) :
    exec (.restart []) s = .next (restartCommand (s.clocked 1)) :=
  live_command_taken h cmdRestart [] (by simp)

/-- COUNTERS, taken on an idle port, is the owner's command (R170, R179). -/
theorem exec_counters {s : State} (h : s.TakesCommands) :
    exec (.counters []) s = .next (refreshAccess (countersCommand (s.clocked 1))) :=
  live_command_taken h cmdCounters [] (by simp)

/-- The counters in the order of R178. -/
def counterOrder : List Counter :=
  [.framesOk, .framesOwn, .crcFail, .broken, .malformed, .unknownKind, .noisyFrames, .longDominant, .yields,
   .driveFaults, .ignored, .noticesLost, .postsDropped, .strayChars, .portErrors, .commandsRefused]

/-- An event counted changes the one value at its counter's place (R178). -/
theorem counterValues_bump (c : Counters) (x : Counter) :
    counterValues (c.bump x) = (counterValues c).modify (counterOrder.idxOf x) countUp := by
  cases x <;> rfl

/-- No counter has two places (R178). -/
theorem idxOf_counterOrder {i : Nat} {x : Counter} (h : counterOrder[i]? = some x) :
    counterOrder.idxOf x = i := by
  obtain ⟨hi, rfl⟩ := List.getElem?_eq_some_iff.mp h
  exact List.Nodup.idxOf_getElem (by decide) i hi

/-- One more, staying at 65535 (R178). -/
theorem countUp_eq (v : BitVec 16) : countUp v = if v.toNat = 65535 then v else v + 1 := by
  have hfull : v = 0xFFFF ↔ v.toNat = 65535 := BitVec.toNat_inj.symm
  simp only [countUp, hfull]

/-- The bytes of COUNTERS are the sixteen values in the order of R178, two bytes each (12.4). -/
theorem counters_bytes (c : Counters) :
    c.bytes = (counterValues c).flatMap fun v => [natByte (v.toNat / 256), natByte v.toNat] := rfl

/-- Settles O23: the rise of a counter is its place in the bank; RESTART and COUNTERS are refused at a full Result
Slot and are otherwise their owner's command, RESTART without a condition on the lanes, for it empties them. -/
theorem restartAndCountersClear : Obligations.RestartAndCountersClear := by
  refine ⟨fun c i x hplace => ?_, fun s hidle => ⟨fun r hr hfollows => ?_, fun hempty => ?_⟩,
    fun s hidle hfollows => ⟨fun r hr => ?_, fun hempty => ?_⟩⟩
  · rw [counterValues_bump, idxOf_counterOrder hplace]
    exact congrArg _ (funext countUp_eq)
  · exact live_command_refused hidle hr hfollows cmdRestart []
  · exact exec_restart ⟨hidle, hempty⟩
  · exact live_command_refused hidle hr hfollows cmdCounters []
  · rw [exec_counters ⟨hidle, hempty⟩]
    refine hfollows.next_eq ?_ rfl rfl rfl
    rw [countersCommand, counters_bytes]
    rfl

end Sys2Proof.Machine

/-! A peer POST at the Post Unit: the filter by the destination, and the delivery to the Mailbox (R162, R163). -/

namespace Sys2Proof.Machine

/-! ### The filter -/

/-- A broadcast post is delivered where broadcast acceptance is yes (R162). -/
theorem takePost_broadcast {s : State} (haccepts : ∃ c, s.config = some c ∧ c.broadcast = true) (p : Addr)
    (payload : List Byte) :
    takePost p 0 payload s = deliver { source := p, broadcast := true, payload := payload } s := by
  obtain ⟨c, hconfig, hbroadcast⟩ := haccepts
  simp only [takePost, if_true, hconfig, hbroadcast]

/-- A broadcast post is passed over where broadcast acceptance is no or not configured (R162). -/
theorem takePost_broadcast_passed {s : State} (hrefuses : ¬ ∃ c, s.config = some c ∧ c.broadcast = true)
    (p : Addr) (payload : List Byte) : takePost p 0 payload s = s := by
  rw [takePost, if_pos rfl]
  rcases hconfig : s.config with _ | c
  · rfl
  · exact if_neg fun hbroadcast => hrefuses ⟨c, hconfig, hbroadcast⟩

/-- A post to the own address is delivered, for the own address is not the broadcast (R162). -/
theorem takePost_own {s : State} (hown : s.ownAddr ≠ 0) (p : Addr) (payload : List Byte) :
    takePost p (addrByte s.ownAddr) payload s =
      deliver { source := p, broadcast := false, payload := payload } s := by
  rw [takePost, if_neg (mt addrByte_eq_zero.mp hown), if_pos rfl]

/-- A post to another station is passed over (R162). -/
theorem takePost_other {s : State} {d : Byte} (hbroadcast : d ≠ 0) (hother : d ≠ addrByte s.ownAddr) (p : Addr)
    (payload : List Byte) : takePost p d payload s = s := by
  rw [takePost, if_neg hbroadcast, if_neg hother]

/-! ### The arrival -/

/-- Hearing a frame leaves the own address. -/
@[simp] theorem heard_ownAddr (s : State) (p : Addr) (flag : Option Bool) (noisy : Bool) :
    (s.heard p flag noisy).ownAddr = s.ownAddr := by
  rw [State.heard, peerHeard_eq]; rfl

/-- Hearing a frame leaves the Mailbox. -/
@[simp] theorem heard_mailbox (s : State) (p : Addr) (flag : Option Bool) (noisy : Bool) :
    (s.heard p flag noisy).mailbox = s.mailbox := by
  rw [State.heard, peerHeard_eq]; rfl

/-- A peer POST reaches the Post Unit after the Presence Unit (R94, R162). -/
theorem exec_postArrival {s : State} {p : Addr} {d : Byte} {payload : List Byte} (hears : s.HearsAFrame)
    (hall : s.DispatchesAll) (hp : s.Foreign p) (hd : d.toNat ≤ 31) (hsome : 1 ≤ payload.length)
    (hfits : payload.length ≤ 16) (noisy : Bool) :
    exec (.postArrival p d payload noisy) s =
      .next (refreshAccess (takePost p d payload (s.heard p none noisy))) :=
  arrival_reaches_allBlocks (f := { source := p, body := .post d payload }) noisy hears.1 hall
    (by simpa [Frame.inRange, BitVec.le_def] using ⟨hp.1, ⟨hd, hsome⟩, hfits⟩)
    (by simp [State.isClash, hp.isOwn_false])

/-- A post delivered behind the hearing of its frame joins the tail of a Mailbox of fewer than four, and is dropped
at four (R163). -/
theorem deliver_heard (m : Mail) (s : State) (p : Addr) (flag : Option Bool) (noisy : Bool) :
    deliver m (s.heard p flag noisy) =
      if s.mailbox.length < 4 then { s.heard p flag noisy with mailbox := s.mailbox ++ [m] }
      else produce (.postDropped m.source)
        { s.heard p flag noisy with counters := (s.heard p flag noisy).counters.bump .postsDropped } := by
  rw [deliver, heard_mailbox]
  rfl

/-- Settles O40: the POST reaches the Post Unit in the state that heard it, which has the own address, the
configuration and the Mailbox of the state before, and each row of R162 is one equation of the filter. -/
theorem postArrivalIsFilteredAndDelivered : Obligations.PostArrivalIsFilteredAndDelivered := by
  intro s p d payload noisy hears hall hp hown hd hsome hfits h accepts _
  have hexec := exec_postArrival hears hall hp hd hsome hfits noisy
  have hownHeard : h.ownAddr = s.ownAddr := heard_ownAddr s p none noisy
  have hconfig : h.config = s.config := heard_config s p none noisy
  refine ⟨fun hto => ?_, fun hto haccepts => ?_, fun hto hrefuses => ?_, fun hbroadcast hother => ?_⟩
  · rw [hexec, hto, ← hownHeard, takePost_own (by rwa [hownHeard]), deliver_heard]
  · rw [hexec, hto, takePost_broadcast (by rwa [hconfig]), deliver_heard]
  · rw [hexec, hto, takePost_broadcast_passed (by rwa [hconfig])]
  · rw [hexec, takePost_other hbroadcast (by rwa [hownHeard])]

end Sys2Proof.Machine

/-! The Local Port (chapter 11): a produced notice and the Notice Queue (R173, R175), and the fetches of the Result
Slot, the Notice Queue and the Mailbox (R164, R166, R167, R172, R176). -/

namespace Sys2Proof.Machine

/-! ### A produced notice -/

/-- A notice is admitted where its kind has no place in the mask, or its place is set (R173). -/
theorem Notice.admitted_iff (n : Notice) (config : Option Configuration) :
    n.admitted config = true ↔
      ∀ i, n.maskPlace = some i → ∃ c, config = some c ∧ c.mask.getLsbD i = true := by
  rw [Notice.admitted]
  rcases n.maskPlace with _ | i <;> rcases config with _ | c <;> simp

/-- An admitted notice is taken by the queue (R173). -/
theorem produce_admitted {n : Notice} {s : State} (h : n.admitted s.config = true) :
    produce n s = appendNotice n s := if_pos h

/-- A notice that the mask excludes changes nothing (R173). -/
theorem produce_excluded {n : Notice} {s : State} (h : ¬ n.admitted s.config = true) : produce n s = s := if_neg h

/-- With fewer than 31 records and no loss recorded, the notice joins the tail (R175). -/
theorem appendNotice_joins {s : State} (hlost : s.notices.any Notice.isLost = false) (hroom : s.notices.length < 31)
    (n : Notice) : appendNotice n s = { s with notices := s.notices ++ [n] } := by
  rw [appendNotice, if_neg (Bool.eq_false_iff.mp hlost), if_pos hroom]

/-- With 31 records and no loss recorded, a LOST_NOTICES record of count 1 joins in place of the notice (R175). -/
theorem appendNotice_full {s : State} (hlost : s.notices.any Notice.isLost = false) (hfull : s.notices.length = 31)
    (n : Notice) :
    appendNotice n s =
      { s with notices := s.notices ++ [.lostNotices 1], counters := s.counters.bump .noticesLost } := by
  rw [appendNotice, if_neg (Bool.eq_false_iff.mp hlost), if_neg hfull.not_lt]

/-- A LOST_NOTICES record at the tail counts the notice, up to 255 (R175). -/
theorem appendNotice_counted {s : State} {run : List Notice} {c : Nat} (hqueue : s.notices = run ++ [.lostNotices c])
    (hrun : run.any Notice.isLost = false) (n : Notice) :
    appendNotice n s =
      { s with
        notices := run ++ [.lostNotices (min 255 (c + 1))], counters := s.counters.bump .noticesLost } := by
  have hlost : s.notices.any Notice.isLost = true := by simp [hqueue, Notice.isLost]
  have hmap : s.notices.map Notice.oneMoreLost = run ++ [.lostNotices (min 255 (c + 1))] := by
    rw [hqueue, List.map_append, map_oneMoreLost hrun]; rfl
  rw [appendNotice, if_pos hlost, hmap]

/-- Settles O11: the mask places are the table of `maskPlace`, each law-abiding queue takes its branch of
`appendNotice`, and `produce` asks for admission alone. -/
theorem noticeJoinsOrIsCountedLost : Obligations.NoticeJoinsOrIsCountedLost := by
  refine ⟨fun k g tag p n joining => by simp [Notice.maskPlace], fun n s _ =>
    ⟨fun hlost hroom => appendNotice_joins hlost hroom n, fun hlost hfull => appendNotice_full hlost hfull n,
      fun run c hqueue hrun => appendNotice_counted hqueue hrun n,
      fun hset => produce_admitted ((n.admitted_iff s.config).mpr hset), fun i hplace hclear => ?_⟩⟩
  refine produce_excluded fun hadmitted => ?_
  obtain ⟨c, hconfig, hset⟩ := (n.admitted_iff s.config).mp hadmitted i hplace
  rw [hclear c hconfig] at hset
  exact Bool.false_ne_true hset

/-! ### The rise of SEL_N -/

/-- The stores after a transaction that returned `record`: one of a store (`offered`) that was clocked in full with
the two status bytes leaves it, and the NONE record leaves none (R164, R172, R176). -/
def removeClocked (tx : Transaction) (record : List Byte) (offered : Bool) (n : Nat) (s : State) : State :=
  if offered && 2 + record.length ≤ n then removeRecord tx record s else s

/-- The port after a transaction of `n` clocked bytes: idle, with the bytes sent and the reported flags cleared
(R166, R169). -/
def endTransaction (tx : Transaction) (status0 status1 : Byte) (response : List Byte) (n : Nat) (s : State) : State :=
  clearSticky status0 n tx.isUnknown { s with port := .none, sdo := sentBytes status0 status1 response n }

/-- FETCH RESULT empties the Result Slot when its record was clocked in full (R172). -/
theorem removeClocked_result (record : List Byte) (n : Nat) (s : State) :
    removeClocked .fetchResult record true n s =
      { s with result := if 2 + record.length ≤ n then none else s.result } := by
  by_cases hfull : 2 + record.length ≤ n <;> simp [removeClocked, removeRecord, hfull]

/-- FETCH NOTICE takes the head of the Notice Queue when its record was clocked in full (R176). -/
theorem removeClocked_notice (record : List Byte) (n : Nat) (s : State) :
    removeClocked .fetchNotice record true n s =
      { s with notices := if 2 + record.length ≤ n then removeNotice record s.notices else s.notices } := by
  by_cases hfull : 2 + record.length ≤ n <;> simp [removeClocked, removeRecord, hfull]

/-- FETCH MAIL takes the head of the Mailbox when its record was clocked in full (R164). -/
theorem removeClocked_mail (record : List Byte) (n : Nat) (s : State) :
    removeClocked .fetchMail record true n s =
      { s with mailbox := if 2 + record.length ≤ n then s.mailbox.drop 1 else s.mailbox } := by
  by_cases hfull : 2 + record.length ≤ n <;> simp [removeClocked, removeRecord, hfull]

/-- A transaction removes nothing but a result, notices and posts. -/
theorem removeClocked_eq (tx : Transaction) (record : List Byte) (offered : Bool) (n : Nat) (s : State) :
    removeClocked tx record offered n s =
      { s with
        result := (removeClocked tx record offered n s).result
        notices := (removeClocked tx record offered n s).notices
        mailbox := (removeClocked tx record offered n s).mailbox } := by
  rw [removeClocked]
  split
  · cases tx <;> rfl
  · rfl

/-- SEL_N rises on a transaction whose code was taken (R166, R169). -/
theorem raiseSelect_running {s : State} {tx : Transaction} {a b : Byte} {r : List Byte} {offered : Bool}
    (hport : s.port = .running tx a b r offered) (n : Nat) :
    raiseSelect n s = removeClocked tx r offered n (endTransaction tx a b r n s) := by
  simp only [raiseSelect, hport, removeClocked, endTransaction]

/-- The rise alone, given on a transaction whose code was taken (R166, R167). -/
theorem transact_rise_running {s : State} {tx : Transaction} {a b : Byte} {r : List Byte} {offered : Bool}
    (hport : s.port = .running tx a b r offered) {n : Nat} (hn : 1 ≤ n) :
    transact tx (.rise n) s = removeClocked tx r offered n (endTransaction tx a b r n s) := by
  have hfree : s.portBusy tx = false := by simp [State.portBusy, hport]
  simp only [transact, hfree, Bool.false_eq_true, if_false, hport, Nat.max_eq_left hn]
  exact raiseSelect_running hport n

/-- The code alone, given on a selected port: the response is the one of this moment (R167). -/
theorem transact_code_selected {s : State} {tx : Transaction} {a b : Byte} (hport : s.port = .selected a b)
    (hknown : tx.isUnknown = false) :
    transact tx .code s = { s with port := .running tx a b (s.responseOf tx).1 (s.responseOf tx).2 } := by
  simp [transact, State.portBusy, selectPort, takeCode, noteCode, hport, hknown]

/-- The fall, the code and the rise at one moment are a transaction of its own, which shows and clears the sticky
flags of this moment; with no byte clocked it is none (R166, R167, R169). -/
theorem transact_rise_idle {s : State} {tx : Transaction} (hport : s.port = .none) (hknown : tx.isUnknown = false)
    {r : List Byte} {offered : Bool} (hresponse : s.responseOf tx = (r, offered)) (n : Nat) :
    transact tx (.rise n) s = removeClocked tx r offered n (s.readOut r n) := by
  have hfree : s.portBusy tx = false := by simp [State.portBusy, hport]
  rcases n with _ | n
  · have hrise : transact tx (.rise 0) s = s.readOut r 0 := by
      cases s
      simp_all [transact, raiseSelect, selectPort, sentBytes, State.readOut, State.clockedOut]
    simp [hrise, removeClocked]
  · have htake : transact tx (.rise (n + 1)) s =
        raiseSelect (n + 1) { s with port := .running tx s.status0 s.status1 r offered } := by
      have hafter : ({ s with port := .selected s.status0 s.status1 } : State).responseOf tx = (r, offered) :=
        hresponse
      simp [transact, hfree, hport, selectPort, takeCode, noteCode, hknown, hafter]
    have hended : endTransaction tx s.status0 s.status1 r (n + 1)
        { s with port := .running tx s.status0 s.status1 r offered } = s.readOut r (n + 1) := by
      simp only [endTransaction, clearSticky, hknown, status0_refused, status0_portError, stickyAfter_shown,
        State.readOut, State.clockedOut, sentBytes, ← hport]
    rw [htake, raiseSelect_running rfl, hended]

/-! ### The fetches as rows -/

/-- A whole fetch on an idle port, given in one row (R166, R167). -/
theorem live_rise_idle {s : State} {tx : Transaction} (hidle : s.PortIdle) (hfollows : s.AccessFollows)
    (hknown : tx.isUnknown = false) {r : List Byte} {offered : Bool} (hresponse : s.responseOf tx = (r, offered))
    (n : Nat) : live (transact tx (.rise n)) s = .next (removeClocked tx r offered n (s.readOut r n)) := by
  obtain ⟨hreset, hport⟩ := hidle
  rw [live_eq hreset]
  refine hfollows.next_eq (transact_rise_idle hport hknown hresponse n) ?_ ?_ ?_ <;> rw [removeClocked_eq] <;> rfl

/-- The rise of a fetch whose code was taken before (R166, R167). -/
theorem live_rise_running {s : State} {tx : Transaction} {a b : Byte} {r : List Byte} {offered : Bool}
    (hreset : s.inReset = false) (hfollows : s.AccessFollows) (hport : s.port = .running tx a b r offered)
    {n : Nat} (hn : 1 ≤ n) :
    live (transact tx (.rise n)) s = .next (removeClocked tx r offered n (endTransaction tx a b r n s)) := by
  rw [live_eq hreset]
  refine hfollows.next_eq (transact_rise_running hport hn) ?_ ?_ ?_ <;> rw [removeClocked_eq] <;> rfl

/-- The code of a fetch on a selected port (R167). -/
theorem live_code_selected {s : State} {tx : Transaction} {a b : Byte} (hreset : s.inReset = false)
    (hfollows : s.AccessFollows) (hport : s.port = .selected a b) (hknown : tx.isUnknown = false) :
    live (transact tx .code) s =
      .next { s with port := .running tx a b (s.responseOf tx).1 (s.responseOf tx).2 } := by
  rw [live_eq hreset]
  exact hfollows.next_eq (transact_code_selected hport hknown) rfl rfl rfl

/-! ### FETCH RESULT and FETCH MAIL -/

/-- FETCH RESULT offers the record of the Result Slot (R172). -/
theorem responseOf_result {s : State} {r : List Byte} (h : s.result = some r) :
    s.responseOf .fetchResult = (r, true) := by
  simp only [State.responseOf, h]

/-- FETCH RESULT answers an empty Result Slot with the NONE record (R172). -/
theorem responseOf_result_none {s : State} (h : s.result = none) : s.responseOf .fetchResult = ([0], false) := by
  simp only [State.responseOf, h, noneResult]

/-- FETCH MAIL offers the head of the Mailbox (R164). -/
theorem responseOf_mail {s : State} {m : Mail} {rest : List Mail} (h : s.mailbox = m :: rest) :
    s.responseOf .fetchMail = (m.bytes, true) := by
  simp only [State.responseOf, h]

/-- FETCH MAIL answers an empty Mailbox with the record of length 0 (R164). -/
theorem responseOf_mail_none {s : State} (h : s.mailbox = []) : s.responseOf .fetchMail = ([0, 0, 0], false) := by
  simp only [State.responseOf, h, noneMail]

/-- A mail record is three bytes and the payload, with the status bytes five and the payload (R183). -/
theorem mail_clocked_iff (m : Mail) (n : Nat) : 2 + m.bytes.length ≤ n ↔ 5 + m.payload.length ≤ n := by
  simp only [Mail.bytes, List.length_append, List.length_cons, List.length_nil]
  omega

/-- Settles O7: each clause names the response that stands when the code is taken, and removes it from its store
where `removeClocked` does. -/
theorem fetchResultAndMailRemoveAWholeRecord : Obligations.FetchResultAndMailRemoveAWholeRecord := by
  refine ⟨fun s n hidle hfollows => ⟨fun r hr => ?_, fun hr => ?_⟩,
    fun s n hreset hfollows => ⟨fun hport hempty => ?_, fun m rest hport hm => ?_, fun a b hport => ?_,
      fun a b r hport hn => ?_, fun a b r hport hn => ?_⟩⟩
  · have hrow : exec (.fetchResult (.rise n)) s = .next (removeClocked .fetchResult r true n (s.readOut r n)) :=
      live_rise_idle hidle hfollows rfl (responseOf_result hr) n
    have hstands : (s.readOut r n).result = some r := hr
    rw [hrow, removeClocked_result, hstands]
  · exact live_rise_idle hidle hfollows rfl (responseOf_result_none hr) n
  · exact live_rise_idle ⟨hreset, hport⟩ hfollows rfl (responseOf_mail_none hempty) n
  · have hrow : exec (.fetchMail (.rise n)) s =
        .next (removeClocked .fetchMail m.bytes true n (s.readOut m.bytes n)) :=
      live_rise_idle ⟨hreset, hport⟩ hfollows rfl (responseOf_mail hm) n
    have hstands : (s.readOut m.bytes n).mailbox = m :: rest := hm
    simp only [hrow, removeClocked_mail, hstands, mail_clocked_iff, List.drop_one, List.tail_cons]
    rfl
  · have hrow : exec (.fetchMail .code) s = _ := live_code_selected hreset hfollows hport rfl
    rw [hrow]
    rcases hmailbox : s.mailbox with _ | ⟨m, rest⟩
    · rw [responseOf_mail_none hmailbox]
    · rw [responseOf_mail hmailbox, Mail.bytes]
  · refine ⟨_, live_rise_running hreset hfollows hport hn, ?_, ?_⟩ <;> rw [removeClocked_mail] <;> rfl
  · exact ⟨_, live_rise_running hreset hfollows hport hn, rfl, rfl⟩

/-! ### FETCH NOTICE -/

/-- FETCH NOTICE offers the head of the Notice Queue (R176). -/
theorem responseOf_notice {s : State} {h : Notice} {rest : List Notice} (hq : s.notices = h :: rest) :
    s.responseOf .fetchNotice = (h.bytes, true) := by
  simp only [State.responseOf, hq]

/-- FETCH NOTICE answers an empty queue with the NONE record (R176). -/
theorem responseOf_notice_none {s : State} (hq : s.notices = []) :
    s.responseOf .fetchNotice = ([0, 0, 0, 0], false) := by
  simp only [State.responseOf, hq, noneNotice]

/-- A notice record is four bytes (R183). -/
@[simp] theorem Notice.bytes_length (h : Notice) : h.bytes.length = 4 := by cases h <;> rfl

/-- A head that stands as it was returned is removed: a block's notice always, a LOST_NOTICES record while its
count is the returned one (R176). -/
theorem removeNotice_returned {r : List Byte} {h : Notice} (hsame : h.isLost = false ∨ r = h.bytes)
    (rest : List Notice) : removeNotice r (h :: rest) = rest := by
  cases h with
  | lostNotices n => exact if_pos (hsame.resolve_left Bool.true_eq_false.mp)
  | _ => rfl

/-- A LOST_NOTICES record that has counted on since the code keeps the difference (R176). -/
theorem removeNotice_risen {c d : Nat} (hrisen : c < d) (hbound : d ≤ 255) (rest : List Notice) :
    removeNotice (Notice.lostNotices c).bytes (.lostNotices d :: rest) = .lostNotices (d - c) :: rest := by
  have hcount : (natByte c).toNat = c := by simp only [natByte, BitVec.toNat_ofNat]; omega
  have hother : (Notice.lostNotices c).bytes ≠ (Notice.lostNotices d).bytes := by
    intro heq
    have hbyte : natByte c = natByte d := by simpa [Notice.bytes] using heq
    have hnow : (natByte d).toNat = d := by simp only [natByte, BitVec.toNat_ofNat]; omega
    rw [hbyte, hnow] at hcount
    omega
  have hreturned : ((Notice.lostNotices c).bytes[1]?.getD 0).toNat = c := hcount
  rw [removeNotice, if_neg hother, hreturned]

/-- The rise of a FETCH NOTICE that had the head of the queue taken with its code (R176). -/
theorem exec_fetchNotice_rise {s : State} {a b : Byte} {r : List Byte} (hreset : s.inReset = false)
    (hfollows : s.AccessFollows) (hport : s.port = .running .fetchNotice a b r true) (hlength : r.length = 4)
    {n : Nat} (hn : 1 ≤ n) :
    exec (.fetchNotice (.rise n)) s = .next
      { endTransaction .fetchNotice a b r n s with
        notices := if 6 ≤ n then removeNotice r s.notices else s.notices } := by
  have hrow : exec (.fetchNotice (.rise n)) s = _ := live_rise_running hreset hfollows hport hn
  rw [hrow, removeClocked_notice, hlength]
  rfl

/-- Settles O8: the records are the table of `Notice.bytes`; each clause of the fetch names the response that stands
when the code is taken, and what `removeNotice` leaves of the queue at the rise. -/
theorem fetchNoticeRemovesTheHead : Obligations.FetchNoticeRemovesTheHead := by
  refine ⟨fun k g tag p n _ => ?_,
    fun s n hreset hfollows => ⟨fun hport hempty => ?_, fun h rest hport hq => ?_, fun a b hport => ?_,
      fun a b r h rest hport hq hlength hn hsame => ?_, fun a b c d hport hn hq hrisen hbound => ?_,
      fun a b r hport hn => ?_⟩⟩
  · have hstation : addrByte p = BitVec.ofNat 8 p.toNat := BitVec.eq_of_toNat_eq (by simp [addrByte])
    simp [Notice.bytes, EndReason.code, FreedReason.code, LeftReason.code, LineFault.code, boolByte, natByte, hstation]
  · exact live_rise_idle ⟨hreset, hport⟩ hfollows rfl (responseOf_notice_none hempty) n
  · have hrow : exec (.fetchNotice (.rise n)) s =
        .next (removeClocked .fetchNotice h.bytes true n (s.readOut h.bytes n)) :=
      live_rise_idle ⟨hreset, hport⟩ hfollows rfl (responseOf_notice hq) n
    have hstands : (s.readOut h.bytes n).notices = h :: rest := hq
    rw [hrow, removeClocked_notice, hstands, removeNotice_returned (.inr rfl), Notice.bytes_length]
  · have hrow : exec (.fetchNotice .code) s = _ := live_code_selected hreset hfollows hport rfl
    rw [hrow]
    rcases hnotices : s.notices with _ | ⟨h, rest⟩
    · rw [responseOf_notice_none hnotices]
    · rw [responseOf_notice hnotices]
  · refine ⟨_, exec_fetchNotice_rise hreset hfollows hport hlength hn, rfl, ?_, rfl⟩
    simp only [hq, removeNotice_returned hsame]
  · refine ⟨_, exec_fetchNotice_rise hreset hfollows hport (Notice.bytes_length _) hn, rfl, ?_⟩
    simp only [hq, removeNotice_risen hrisen hbound]
    split <;> rfl
  · exact ⟨_, live_rise_running hreset hfollows hport hn, rfl, rfl⟩

end Sys2Proof.Machine

/-! Entry to MUTE (R154): what it does to each entry, and the whole of it in one equation. -/

namespace Sys2Proof.Machine

/-- What entry to MUTE does at one entry (R154). -/
def muteRule : KeyRule where
  entry := mutedEntry
  notice e := match e.claim with
    | .mine => some (.lost e.key .muted 0)
    | .asking _ => some (.refused e.key .muted 0)
    | _ => if e.want = .wait then some (.refused e.key .muted 0) else none
  urgent _ lane := lane
  normal _ lane := lane
  entry_key _ := rfl

/-- A rule that leaves the lanes, at an entry for which it has a notice. -/
theorem KeyRule.takenAt_of_notice {r : KeyRule} {e : Entry} {s : State} {note : Notice} (n : Nat)
    (hnote : r.notice e = some note) (hurgent : r.urgent e s.urgent = s.urgent)
    (hnormal : r.normal e s.normal = s.normal) :
    r.takenAt n e s = produce note (s.putEntry n (r.entry e)) := by
  rw [KeyRule.takenAt, hnote, hurgent, hnormal]
  exact (produce_eq_of_congr (s := s) (t := s.putEntry n (r.entry e)) rfl rfl rfl note).symm

/-- A rule that leaves the lanes, at an entry for which it has no notice. -/
theorem KeyRule.takenAt_of_silence {r : KeyRule} {e : Entry} {s : State} (n : Nat)
    (hnote : r.notice e = none) (hurgent : r.urgent e s.urgent = s.urgent)
    (hnormal : r.normal e s.normal = s.normal) : r.takenAt n e s = s.putEntry n (r.entry e) := by
  rw [KeyRule.takenAt, hnote, hurgent, hnormal]
  rfl

/-- Entry to MUTE at one key is the rule, whatever the station state. -/
theorem muteRule_describes (station : StationState) : muteRule.Describes station muteKey where
  absent h := by simp only [muteKey, h]
  present {n e s} _ h := by
    have hdrop : setWant e.key .none (setClaim e.key .free s) =
        s.putEntry n { e with claim := .free, want := .none } := by
      rw [setClaim_at h, setWant_at (h.put { e with claim := .free } rfl) .none, putEntry_putEntry]
    cases hc : e.claim with
    | mine | asking w =>
      rw [KeyRule.takenAt_of_notice n (by simp only [muteRule, hc]; rfl) rfl rfl]
      simp only [muteKey, h.entry, hc, hdrop, muteRule, mutedEntry]
    | free | peerAsking a d | theirs q =>
      by_cases hw : e.want = .wait
      · rw [KeyRule.takenAt_of_notice n (by simp only [muteRule, hc, hw, if_true]; rfl) rfl rfl]
        simp only [muteKey, h.entry, hc, hw, if_true, setWant_at h, muteRule, mutedEntry]
      · have hsame : mutedEntry e = e := by cases e; simp_all [mutedEntry]
        rw [KeyRule.takenAt_of_silence n (by simp only [muteRule, hc, hw, if_false]) rfl rfl]
        simp only [muteKey, h.entry, hc, hw, if_false, muteRule, hsame, State.putEntry, h.set_self]

/-- The notices of the rule are those of the keys. -/
theorem muteRule_notices (s : State) (ks : List Byte) :
    (ks.filterMap s.entry).filterMap muteRule.notice = ks.filterMap (mutedNotice s) := by
  rw [List.filterMap_filterMap]
  refine List.filterMap_congr fun k _ => ?_
  rcases he : s.entry k with _ | e
  · simp [mutedNotice, he]
  · have hkey : e.key = k := findEntry_key he
    cases hc : e.claim <;> simp [mutedNotice, he, muteRule, hkey, hc]

/-- The notice of an entry at entry to MUTE is read from the table alone. -/
theorem mutedNotice_congr {s t : State} (h : t.table = s.table) : mutedNotice t = mutedNotice s := by
  funext k
  simp only [mutedNotice, State.entry, h]

/-- Over all entries, entry to MUTE changes the table and produces the notices in ascending order of key. -/
theorem overKeys_muteKey {s : State} (h : (tableKeys s.table).Nodup) :
    overKeys muteKey s.keysAscending s =
      { s with
        table := s.table.map fun place => place.map mutedEntry
        notices := (produceAll (s.keysAscending.filterMap (mutedNotice s)) s).notices
        counters := (produceAll (s.keysAscending.filterMap (mutedNotice s)) s).counters } := by
  have hconst : ∀ (es : List Entry) (lane : List UrgentOrder), es.foldl (fun l _ => l) lane = lane := fun es lane => by
    induction es with
    | nil => rfl
    | cons _ _ ih => exact ih
  have hconst' : ∀ (es : List Entry) (lane : List NormalOrder), es.foldl (fun l _ => l) lane = lane := fun es lane => by
    induction es with
    | nil => rfl
    | cons _ _ ih => exact ih
  rw [(muteRule_describes s.station).overKeys_eq h (nodup_keysAscending h), KeyRule.over_keysAscending]
  simp only [KeyRule.over, muteRule_notices]
  simp [muteRule, hconst, hconst']

/-- Settles O42: the posts are given up first, then the entries are taken by `overKeys_muteKey`, and the rest of the
entry changes nothing that a notice reads. -/
theorem entryToMuteDropsEverything : Obligations.EntryToMuteDropsEverything := by
  intro s cause htable q
  obtain ⟨-, hkeys, -⟩ := htable
  let posts : List Notice := (s.slotPost.toList ++ lanePosts s.normal).map fun p => .postAbandoned p.tag
  let losses : List Notice := s.keysAscending.filterMap (mutedNotice s)
  let muted : State := { s with station := .mute, leaveLimit := none }
  let stopped : State := stopTransmitting muted
  obtain ⟨hposts, hpostCounts⟩ := produceAll_congr (s := s) (t := muted) rfl rfl rfl posts
  have hstopped : stopped =
      { muted with
        urgent := [], normal := [], access := .off, driveFaults := 0
        notices := (produceAll posts s).notices, counters := (produceAll posts s).counters } := by
    rw [← hposts, ← hpostCounts]
    exact stopTransmitting_eq muted
  have hconfig : stopped.config = (produceAll posts s).config := by rw [hstopped, produceAll_config]
  have htable : stopped.table = s.table := by rw [hstopped]
  have hlosses : stopped.keysAscending.filterMap (mutedNotice stopped) = losses := by
    rw [mutedNotice_congr htable, State.keysAscending, htable]
    rfl
  obtain ⟨hlost, hlostCounts⟩ := produceAll_congr (s := produceAll posts s) (t := stopped) hconfig
    (by rw [hstopped]) (by rw [hstopped]) losses
  have hkeysTaken := overKeys_muteKey (s := stopped) (by rw [htable]; exact hkeys)
  rw [hlosses, hlost, hlostCounts, ← produceAll_append] at hkeysTaken
  have hq : q = produce (.lineFault cause) (produceAll (posts ++ losses) s) := produceAll_append _ _ s
  have henter : enterMute cause s =
      produce (.lineFault cause) (dropOwn (overKeys muteKey stopped.keysAscending stopped)) := rfl
  have hlast := produce_eq_of_congr (s := produceAll (posts ++ losses) s)
    (t := dropOwn (overKeys muteKey stopped.keysAscending stopped))
    (by rw [hkeysTaken, produceAll_config]; exact hconfig.trans (produceAll_config posts s))
    (by rw [hkeysTaken]; rfl) (by rw [hkeysTaken]; rfl) (.lineFault cause)
  rw [henter, hlast, hq, hkeysTaken, hstopped]
  rfl

end Sys2Proof.Machine

/-! What a step can do to what the laws speak of: the changes that the model makes to the station, the table, the
lanes, the Access Engine and the queues, each with the condition under which it is made. Every operation of the model is
a run of such changes (`step_changes`), so that a law is kept by every step once it is kept by every change. -/

namespace Sys2Proof.Machine

/-! ### What the laws read -/

/-- The fields that the laws read, and the two that a row leaves alone. -/
structure View where
  ownAddr : Addr
  rate : BitVec 2
  station : StationState
  config : Option Configuration
  leaving : Bool
  table : List (Option Entry)
  roster : List (Option Peer)
  urgent : List UrgentOrder
  normal : List NormalOrder
  access : Access
  driveFaults : Nat
  mailbox : List Mail
  notices : List Notice
  pending : List Instr
  line : List LineSample

/-- What the laws read of a state. -/
def State.view (s : State) : View :=
  { ownAddr := s.ownAddr, rate := s.rate, station := s.station, config := s.config
    leaving := s.leaveLimit.isSome, table := s.table, roster := s.roster, urgent := s.urgent, normal := s.normal
    access := s.access, driveFaults := s.driveFaults, mailbox := s.mailbox, notices := s.notices
    pending := s.pending, line := s.line }

/-- The Access Engine is on and makes no attempt. -/
def Access.waits : Access → Bool
  | .empty => true
  | .slotWait => true
  | .openWait => true
  | _ => false

/-- The claim of an entry that names a peer. -/
def Claim.peers : Claim → Bool
  | .theirs _ => true
  | .peerAsking _ _ => true
  | _ => false

/-- The claim of an entry that is nothing of this station: FREE, or a peer's whose address is foreign. -/
inductive State.Yields (s : State) : Claim → Prop
  | free : s.Yields .free
  | theirs {q : Addr} (h : s.Foreign q) : s.Yields (.theirs q)
  | peerAsking {q : Addr} (h : s.Foreign q) (d : Time) : s.Yields (.peerAsking q d)

/-- How the claim of an entry moves beside the start of an ask and its completion: it stays; it is given up with no
order left that needs it; or the station takes the key at the end of the window. -/
inductive State.ClaimMoves (s : State) (e : Entry) : Claim → Prop
  | stays : s.ClaimMoves e e.claim
  | yields {c : Claim} (h : s.Yields c) (hold : e.claim = .mine → .hold e.key ∉ s.urgent)
      (ask : e.claim = .asking none → .ask e.key ∉ s.normal) : s.ClaimMoves e c
  | granted {t : Time} (h : e.claim = .asking (some t)) : s.ClaimMoves e .mine

/-- How an entry moves: its key stays, and a waiting ask is recorded only where ASK is taken. -/
structure State.EntryMoves (s : State) (e d : Entry) : Prop where
  key : d.key = e.key
  want : d.want = .wait → e.want = .wait ∨ s.station.takesAsk = true
  claim : s.ClaimMoves e d.claim

/-! ### The changes -/

/-- One change to what the laws read. Only with `world` may the list of the world's samples move. -/
inductive Change (world : Bool) : State → State → Prop
  /-- Nothing that the laws read changes, and a driving station does not lose the line. -/
  | quiet {s t : State} (hview : t.view = s.view)
      (hline : s.isDriving = true → s.monitor.timersRun = true → t.monitor.timersRun = true) : Change world s t
  | worldMoves {s : State} (l : List LineSample) (h : world = true) : Change world s { s with line := l }
  | notice {s : State} (n : Notice) (h : n.isLost = false) : Change world s (produce n s)
  | noticeFetched {s : State} (r : List Byte) : Change world s { s with notices := removeNotice r s.notices }
  | mailJoins {s : State} (m : Mail) (hsource : s.Foreign m.source) (hsome : 1 ≤ m.payload.length)
      (hfits : m.payload.length ≤ 16) (hroom : s.mailbox.length < 4) :
      Change world s { s with mailbox := s.mailbox ++ [m] }
  | mailFetched {s : State} : Change world s { s with mailbox := s.mailbox.drop 1 }
  | peerHears {s : State} (p : Addr) (e : Peer) (hp : s.Foreign p) (hage : e.age = 0) (hsome : 1 ≤ e.frames)
      (hmost : e.frames ≤ 255) : Change world s (setPeer p (some e) s)
  | peerGoes {s : State} (p : Addr) : Change world s (setPeer p none s)
  | clocks {s : State} : Change world s (advanceClocks s)
  | entryMoves {s : State} (k : Byte) (f : Entry → Entry) (hkey : ∀ e, (f e).key = e.key)
      (h : ∀ e, some e ∈ s.table → e.key = k → s.entry k = some e → s.EntryMoves e (f e)) :
      Change world s (setEntry k f s)
  /-- An ask starts on an entry that is FREE (R18, R37). -/
  | askStarts {s : State} (k : Byte) (e : Entry) (normal : List NormalOrder) (he : s.entry k = some e)
      (hfree : e.claim = .free) (hasks : s.station.takesAsk = true ∨ e.want = .wait)
      (hnormal : normal = s.normal ∨ s.station = .active ∧ normal = s.normal ++ [.ask k]) :
      Change world s { setClaim k (.asking none) s with normal := normal }
  /-- LISTENING ends, and the orders of held asks join the lane (R75). -/
  | listened {s : State} (ks : List Byte) (hst : s.station = .listening) (hks : s.TableLaw → ks.Nodup)
      (hheld : ∀ k ∈ ks, s.claimOf k = some (.asking none)) :
      Change world s { s with station := .active, normal := s.normal ++ ks.map .ask }
  /-- The own ASK in the slot has completed, and its window starts (R23). -/
  | askSent {s : State} (k : Byte) (a : Attempt) (t : Time) (ha : s.access = .driving a)
      (horder : a.order = .normal (.ask k)) (hclaim : s.claimOf k = some (.asking none)) :
      Change world s
        { removeAsk k (setClaim k (.asking (some t)) s) with access := .slotWait, driveFaults := 0 }
  | stateOrder {s : State} (o : UrgentOrder) (ho : o.isStateOf o.key = true) (hentry : (s.entry o.key).isSome = true)
      (hhold : ∀ k, o = .hold k → s.claimOf k = some .mine) : Change world s (requestState o s)
  | objectOrder {s : State} (k : Byte) (hentry : (s.entry k).isSome = true) : Change world s (requestObject k s)
  | holdRemoved {s : State} (k : Byte) : Change world s (removeHold k s)
  | askRemoved {s : State} (k : Byte) : Change world s (removeAsk k s)
  /-- A MINE entry is released, and FREE takes the place of its state order (R40). -/
  | released {s : State} (k : Byte) (hmine : s.claimOf k = some .mine) : Change world s (releaseMine k s)
  | presenceOrder {s : State} : Change world s (requestPresence s)
  | postOrder {s : State} (p : Post) (h : s.pendingPosts < 4) : Change world s (requestPost p s)
  | allocates {s : State} (k : Byte) (t : List (Option Entry)) (habsent : s.entry k = none)
      (hkey : validKey k = true) (ht : allocate (newEntry k) s.table = some t) : Change world s { s with table := t }
  | vacates {s : State} (k : Byte) (e : Entry) (he : s.entry k = some e) (hidle : s.busyKey k e = false) :
      Change world s { s with table := vacateEntry k s.table }
  | waits {s : State} (a : Access) (hs : s.access.waits = true) (ha : a.waits = true) :
      Change world s { s with access := a }
  | drives {s : State} (a b : Attempt) (ha : s.access = .driving a) (hb : b.order = a.order) :
      Change world s { s with access := .driving b }
  | begins {s : State} (hwaits : s.access.waits = true) (hline : s.monitor.timersRun = true) :
      Change world s (beginAttempt s)
  | handsBack {s : State} (a : Attempt) (ha : s.access = .driving a) : Change world s (handBack a.order s)
  | slotDone {s : State} (a : Attempt) (ha : s.access = .driving a) :
      Change world s { s with access := .slotWait, driveFaults := 0 }
  | faulted {s : State} (h : s.driveFaults + 1 < s.retryLimit) :
      Change world s { s with driveFaults := s.driveFaults + 1 }
  | established {s : State} (c : Configuration) (bcast : Byte) (hst : s.station = .unconfigured)
      (hrange : configInRange s.rate c.silenceUnit c.window c.retryLimit c.mask bcast = true) :
      Change world s
        { s with
          config := some c, station := .listening, roster := dropAged (ms (16 * c.silenceUnit.toNat)) s.roster
          driveFaults := 0, access := .empty }
  /-- LEAVING begins once no entry is MINE, ASKING or waits (R151). -/
  | leaves {s : State} (limit : Time) (hst : s.station.takesAsk = true)
      (hleft : s.TableLaw → ∀ e, some e ∈ s.table → leftEntry e = e) :
      Change world s
        { s with
          station := .leaving, leaveLimit := some limit
          normal := s.normal.filter (fun o => !o.isPresence) ++ [.presence true] }
  | mutes {s : State} (table : List (Option Entry)) (hon : s.access ≠ .off ∨ s.station.transmits = true)
      (htable : s.TableLaw → table = s.table.map fun place => place.map mutedEntry) :
      Change world s
        { s with
          station := .mute, leaveLimit := none, urgent := [], normal := [], access := .off, driveFaults := 0
          table := table }
  | goesOffline {s : State} (hon : s.access ≠ .off ∨ s.leaveLimit.isSome = true) :
      Change world s
        { s with
          station := .offline, leaveLimit := none, urgent := [], normal := [], access := .off, driveFaults := 0
          table := List.replicate 16 none, roster := List.replicate 32 none }
  /-- Every block goes back to its initial state (R146, R156). -/
  | cleared {s t : State}
      (h : t.view = { (State.initial s.ownAddr s.rate).view with pending := s.pending, line := s.line }) :
      Change world s t

/-- A run of changes. -/
def Changes (world : Bool) : State → State → Prop := Relation.ReflTransGen (Change world)

/-- What every change keeps, a run of changes keeps. -/
theorem Changes.keeps {world : Bool} {P : State → Prop} (h : ∀ s t, Change world s t → P s → P t) {s t : State}
    (hst : Changes world s t) (hs : P s) : P t := by
  induction hst with
  | refl => exact hs
  | tail _ hc ih => exact h _ _ hc ih

variable {w : Bool}

theorem Change.run {s t : State} (h : Change w s t) : Changes w s t := Relation.ReflTransGen.single h

theorem Changes.refl {s : State} : Changes w s s := Relation.ReflTransGen.refl

theorem Changes.trans {s t u : State} (h : Changes w s t) (h' : Changes w t u) : Changes w s u :=
  Relation.ReflTransGen.trans h h'

/-- A run that leaves what the laws read. -/
theorem Changes.quiet {s t : State} (hview : t.view = s.view)
    (hline : s.isDriving = true → s.monitor.timersRun = true → t.monitor.timersRun = true) : Changes w s t :=
  (Change.quiet hview hline).run

/-- An update of fields that no law reads. -/
theorem Changes.same {s t : State} (hview : t.view = s.view) (hmonitor : t.monitor = s.monitor) : Changes w s t :=
  .quiet hview fun _ h => hmonitor ▸ h

/-- A run behind an update of fields that no law reads. -/
theorem Changes.behind {s t u : State} (h : Changes w t u) (hview : t.view = s.view)
    (hmonitor : t.monitor = s.monitor) : Changes w s u :=
  (Changes.same hview hmonitor).trans h

theorem Changes.notice (n : Notice) (h : n.isLost = false) (s : State) : Changes w s (produce n s) :=
  (Change.notice n h).run

theorem Changes.count (c : Counter) (s : State) : Changes w s (count c s) := .same rfl rfl

theorem Changes.answer (c : ResultCode) (b : Byte) (fs : List Byte) (s : State) : Changes w s (answer c b fs s) :=
  .same rfl rfl

/-- An operation over a list is a run of changes when each of its steps is. -/
theorem Changes.foldl {α : Type} {f : State → α → State} {l : List α} {s : State}
    (h : ∀ t, ∀ x ∈ l, Changes w s t → Changes w t (f t x)) : Changes w s (l.foldl f s) := by
  induction l generalizing s with
  | nil => exact .refl
  | cons x l ih =>
    have hx := h s x List.mem_cons_self .refl
    exact hx.trans (ih fun t y hy ht => h t y (List.mem_cons_of_mem _ hy) (hx.trans ht))

theorem Changes.overKeys {f : Byte → State → State} (h : ∀ k t, Changes w t (f k t)) (ks : List Byte) (s : State) :
    Changes w s (overKeys f ks s) :=
  .foldl fun t k _ _ => h k t

/-! ### What no change touches -/

/-- The begin of an attempt changes the lanes and the condition alone. -/
theorem beginAttempt_eq (s : State) :
    beginAttempt s =
      { s with
        urgent := (beginAttempt s).urgent, normal := (beginAttempt s).normal, access := (beginAttempt s).access } := by
  simp only [beginAttempt]
  (repeat' split) <;> rfl

/-- A frame handed back changes the lanes and the condition alone. -/
theorem handBack_eq (o : Order) (s : State) :
    handBack o s =
      { s with urgent := (handBack o s).urgent, normal := (handBack o s).normal, access := .slotWait } := by
  rcases o with (k | k | ⟨k, b⟩) | (k | b | p) <;>
    simp only [handBack, handBackUrgent, handBackNormal] <;> (repeat' split) <;> rfl

/-- A POST request changes the normal lane alone. -/
theorem requestPost_eq (p : Post) (s : State) :
    requestPost p s = { s with normal := (requestPost p s).normal } := by
  simp only [requestPost]
  split <;> rfl

/-- A change keeps the straps and the queue, and leaves the world alone unless it may move. -/
theorem Change.frame {s t : State} (h : Change w s t) :
    t.ownAddr = s.ownAddr ∧ t.rate = s.rate ∧ t.pending = s.pending ∧ (w = false → t.line = s.line) := by
  cases h with
  | quiet hview _ =>
    exact ⟨congrArg View.ownAddr hview, congrArg View.rate hview, congrArg View.pending hview,
      fun _ => congrArg View.line hview⟩
  | cleared hview =>
    exact ⟨congrArg View.ownAddr hview, congrArg View.rate hview, congrArg View.pending hview,
      fun _ => congrArg View.line hview⟩
  | worldMoves l hw => exact ⟨rfl, rfl, rfl, fun h => absurd hw (by simp [h])⟩
  | released k _ => simp [releaseMine]
  | begins _ _ => rw [beginAttempt_eq]; exact ⟨rfl, rfl, rfl, fun _ => rfl⟩
  | handsBack a _ => rw [handBack_eq]; exact ⟨rfl, rfl, rfl, fun _ => rfl⟩
  | postOrder p _ => rw [requestPost_eq]; exact ⟨rfl, rfl, rfl, fun _ => rfl⟩
  | _ => simp [removeAsk, removeHold, setClaim, setEntry, advanceClocks, setPeer]

theorem Changes.ownAddr {s t : State} (h : Changes w s t) : t.ownAddr = s.ownAddr := by
  induction h with
  | refl => rfl
  | tail _ hc ih => exact hc.frame.1.trans ih

theorem Changes.rate {s t : State} (h : Changes w s t) : t.rate = s.rate := by
  induction h with
  | refl => rfl
  | tail _ hc ih => exact hc.frame.2.1.trans ih

theorem Changes.pending {s t : State} (h : Changes w s t) : t.pending = s.pending := by
  induction h with
  | refl => rfl
  | tail _ hc ih => exact hc.frame.2.2.1.trans ih

theorem Changes.line {s t : State} (h : Changes false s t) : t.line = s.line := by
  induction h with
  | refl => rfl
  | tail _ hc ih => exact (hc.frame.2.2.2 rfl).trans ih

/-- A foreign station stays one. -/
theorem State.Foreign.of_changes {s t : State} {q : Addr} (hq : s.Foreign q) (h : Changes w s t) : t.Foreign q :=
  ⟨hq.1, h.ownAddr ▸ hq.2⟩

end Sys2Proof.Machine

namespace Sys2Proof.Machine
variable {w : Bool}

/-! ### The Claim Engine -/

/-- An entry keeps its claim and takes a want that needs no state. -/
theorem setWant_changes (k : Byte) (v : Want) (s : State) (hv : v = .wait → s.station.takesAsk = true) :
    Changes w s (setWant k v s) :=
  (Change.entryMoves k (fun e => { e with want := v }) (fun _ => rfl) fun _ _ _ _ =>
    { key := rfl, want := fun h => Or.inr (hv h), claim := .stays }).run

theorem setWant_none_changes (k : Byte) (s : State) : Changes w s (setWant k .none s) :=
  setWant_changes k .none s nofun

/-- An entry is given up, with no order left that needs its claim. -/
theorem setClaimGen_yields {s : State} {k : Byte} {e : Entry} {c : Claim} (g : Byte) (he : s.entry k = some e)
    (hc : s.Yields c) (hold : e.claim = .mine → .hold k ∉ s.urgent)
    (ask : e.claim = .asking none → .ask k ∉ s.normal) : Changes w s (setClaimGen k c g s) := by
  refine (Change.entryMoves k (fun e => { e with claim := c, gen := g }) (fun _ => rfl) fun f _ hk hf => ?_).run
  obtain rfl : e = f := by simpa [he] using hf
  subst hk
  exact { key := rfl, want := Or.inl, claim := .yields hc hold ask }

theorem setClaim_yields {s : State} {k : Byte} {e : Entry} {c : Claim} (he : s.entry k = some e)
    (hc : s.Yields c) (hold : e.claim = .mine → .hold k ∉ s.urgent)
    (ask : e.claim = .asking none → .ask k ∉ s.normal) : Changes w s (setClaim k c s) := by
  refine (Change.entryMoves k (fun e => { e with claim := c }) (fun _ => rfl) fun f _ hk hf => ?_).run
  obtain rfl : e = f := by simpa [he] using hf
  subst hk
  exact { key := rfl, want := Or.inl, claim := .yields hc hold ask }

theorem mem_urgent_removeHold (k : Byte) (s : State) : .hold k ∉ (removeHold k s).urgent := by
  simp [removeHold, UrgentOrder.isHoldOf]

theorem mem_normal_removeAsk (k : Byte) (s : State) : .ask k ∉ (removeAsk k s).normal := by
  simp [removeAsk, NormalOrder.isAskOf]

/-- An ask starts on a FREE entry, whether or not the lane takes its order. -/
theorem startAsk_changes {s t : State} {k : Byte} {e : Entry} (he : s.entry k = some e) (hfree : e.claim = .free)
    (hasks : s.station.takesAsk = true ∨ e.want = .wait) (ht : startAsk k s = some t) : Changes w s t := by
  simp only [startAsk] at ht
  by_cases hst : (setClaim k (.asking none) s).station = .active
  · rw [if_pos hst] at ht
    rw [setClaim_station] at hst
    rcases requestAsk_cases k (setClaim k (.asking none) s) with ⟨h, -⟩ | ⟨-, -, h⟩ | ⟨-, -, h⟩
    · simp [hst, StationState.transmits] at h
    · rw [h] at ht
      obtain rfl := Option.some.inj ht
      exact (Change.askStarts k e _ he hfree hasks (.inr ⟨hst, rfl⟩)).run
    · simp [h] at ht
  · rw [if_neg hst] at ht
    obtain rfl := Option.some.inj ht
    exact (Change.askStarts k e s.normal he hfree hasks (.inl rfl)).run

theorem restartAsk_changes {s : State} {k : Byte} {e : Entry} (he : s.entry k = some e) (hfree : e.claim = .free)
    (hwait : e.want = .wait) : Changes w s (restartAsk k s) := by
  rw [restartAsk]
  cases ht : startAsk k s with
  | none => exact (Change.askStarts k e s.normal he hfree (.inr hwait) (.inl rfl)).run
  | some t => exact startAsk_changes he hfree (.inr hwait) ht

/-- An entry that named a peer becomes FREE by a rule of the line. -/
theorem becomeFree_changes {s : State} {k : Byte} {e : Entry} (he : s.entry k = some e) (hpeers : e.claim.peers = true) :
    Changes w s (becomeFree k s) := by
  have hfreed : Changes w s (setClaim k .free s) :=
    setClaim_yields he .free (fun h => by simp [h, Claim.peers] at hpeers) fun h => by simp [h, Claim.peers] at hpeers
  have hentry : (setClaim k .free s).entry k = some { e with claim := .free } := by simp [entry_setClaim, he]
  simp only [becomeFree, hentry]
  split
  · next hwait => exact hfreed.trans (restartAsk_changes hentry rfl hwait)
  · exact hfreed

theorem refuseOnce_changes (k : Byte) (v : Want) (r : EndReason) (p : Addr) (s : State) :
    Changes w s (refuseOnce k v r p s) := by
  rw [refuseOnce]
  split
  · exact (Changes.notice _ rfl s).trans (setWant_none_changes k _)
  · exact .refl

/-- A state order for a key with an entry, a FREE one or a HOLD for a MINE entry. -/
theorem requestFree_changes {s : State} {k : Byte} (b : Bool) (h : (s.entry k).isSome = true) :
    Changes w s (requestState (.free k b) s) :=
  (Change.stateOrder (.free k b) (by simp [UrgentOrder.isStateOf, UrgentOrder.key]) h nofun).run

theorem requestHold_changes {s : State} {k : Byte} (h : s.claimOf k = some .mine) :
    Changes w s (requestState (.hold k) s) :=
  (Change.stateOrder (.hold k) (by simp [UrgentOrder.isStateOf, UrgentOrder.key])
    (by simp only [State.claimOf, Option.map_eq_some_iff] at h
        obtain ⟨e, he, -⟩ := h
        simp [UrgentOrder.key, he])
    fun _ hk => by cases hk; exact h).run

@[simp] theorem entry_produce (n : Notice) (s : State) (k : Byte) : (produce n s).entry k = s.entry k := by
  simp [State.entry]

@[simp] theorem entry_removeAsk (j k : Byte) (s : State) : (removeAsk j s).entry k = s.entry k := rfl

@[simp] theorem entry_removeHold (j k : Byte) (s : State) : (removeHold j s).entry k = s.entry k := rfl

/-- A withdrawn ask: its order goes first, so that the entry can be given up. -/
theorem withdrawAsk_changes {s : State} {k : Byte} {e : Entry} {v : Option Time} (he : s.entry k = some e)
    (hc : e.claim = .asking v) (x : Option Time) : Changes w s (withdrawAsk k x s) := by
  have hgone : Changes w s (setClaim k .free (removeAsk k s)) :=
    (Change.askRemoved k).run.trans
      (setClaim_yields (s := removeAsk k s) he .free (by simp [hc]) fun _ => mem_normal_removeAsk k s)
  rw [withdrawAsk]
  split
  · exact hgone.trans (requestFree_changes true (by simp [entry_setClaim, he]))
  · exact hgone

theorem splitKeep_changes {s : State} {k : Byte} {e : Entry} (he : s.entry k = some e) (hc : e.claim = .mine)
    (g : Byte) : Changes w s (splitKeep k e g s) := by
  have hgen : Changes w s (setClaimGen k .mine (natByte (max e.gen.toNat g.toNat + 1)) s) := by
    refine (Change.entryMoves k (fun e => { e with claim := .mine, gen := natByte (max _ _ + 1) }) (fun _ => rfl)
      fun f _ _ hf => ?_).run
    obtain rfl : e = f := by simpa [he] using hf
    exact { key := rfl, want := Or.inl, claim := hc ▸ .stays }
  exact (hgen.trans (.notice _ rfl _)).trans
    (requestHold_changes (by simp [State.claimOf, entry_setClaimGen, he]))

/-- What an entry can be given up to depends on the own address alone. -/
theorem State.Yields.congr {s t : State} {c : Claim} (h : s.Yields c) (hown : t.ownAddr = s.ownAddr) : t.Yields c := by
  cases h with
  | free => exact .free
  | theirs h => exact .theirs ⟨h.1, hown ▸ h.2⟩
  | peerAsking h d => exact .peerAsking ⟨h.1, hown ▸ h.2⟩ d

theorem splitGiveUp_changes {s : State} {k : Byte} {e : Entry} {c : Claim} (he : s.entry k = some e)
    (hmine : e.claim = .mine) (hc : s.Yields c) (q : Addr) (g : Byte) : Changes w s (splitGiveUp k q c g s) := by
  have hgone : Changes w s (setClaimGen k c g (removeHold k s)) :=
    (Change.holdRemoved k).run.trans (setClaimGen_yields (s := removeHold k s) g he (hc.congr rfl)
      (fun _ => mem_urgent_removeHold k s) (by simp [hmine]))
  exact hgone.trans (.notice _ rfl _)

theorem split_changes {s : State} {k : Byte} {e : Entry} {c : Claim} (he : s.entry k = some e)
    (hmine : e.claim = .mine) (hc : s.Yields c) (q : Addr) (carried g : Byte) :
    Changes w s (split k e q carried c g s) := by
  rw [split]
  split
  · exact splitKeep_changes he hmine carried
  · exact splitGiveUp_changes he hmine hc q g

theorem deferTo_changes {s : State} {k : Byte} {e : Entry} {p : Addr} (he : s.entry k = some e) (hp : s.Foreign p)
    (hold : e.claim = .mine → .hold k ∉ s.urgent) (ask : e.claim = .asking none → .ask k ∉ s.normal) :
    Changes w s (deferTo k p s) :=
  setClaim_yields he (.peerAsking hp _) hold ask

theorem claimAsk_changes {s : State} {p : Addr} (hp : s.Foreign p) (k : Byte) : Changes w s (claimAsk p k s) := by
  rw [claimAsk]
  split
  · exact .refl
  · next e he =>
    have hobject : Changes w s (requestObject k s) := (Change.objectOrder k (by simp [he])).run
    split
    · next hc => exact deferTo_changes he hp (by simp [hc]) (by simp [hc])
    · exact .refl
    · next hc =>
      exact ((Change.askRemoved k).run.trans (deferTo_changes (s := removeAsk k s) he hp (by simp [hc])
        fun _ => mem_normal_removeAsk k s)).trans (refuseOnce_changes _ _ _ _ _)
    · exact hobject
    · exact hobject
    · next hc =>
      split
      · exact deferTo_changes he hp (by simp [hc]) (by simp [hc])
      · exact .refl

/-- Evidence that a peer holds an ASKING key: its order goes, and the entry becomes the peer's. -/
theorem lostAsk_changes {s : State} {k g : Byte} {e : Entry} {v : Option Time} {q : Addr} (he : s.entry k = some e)
    (hc : e.claim = .asking v) (hq : s.Foreign q) :
    Changes w s (setClaimGen k (.theirs q) g (removeAsk k s)) :=
  (Change.askRemoved k).run.trans
    (setClaimGen_yields (s := removeAsk k s) g he (.theirs hq) (by simp [hc]) fun _ => mem_normal_removeAsk k s)

theorem claimHold_changes {s : State} {q : Addr} (hq : s.Foreign q) (repeats : Bool) (k g : Byte) :
    Changes w s (claimHold repeats q k g s) := by
  rw [claimHold]
  split
  · exact .refl
  · next e he =>
    have htaken (h : e.claim ≠ .mine) (h' : e.claim ≠ .asking none) :
        Changes w s (produce (.taken k q g) (setClaimGen k (.theirs q) g s)) :=
      (setClaimGen_yields g he (.theirs hq) (absurd · h) (absurd · h')).trans (.notice _ rfl _)
    split
    · next hc => exact split_changes he hc (.theirs hq) q g g
    · next hc => exact (lostAsk_changes he hc hq).trans (refuseOnce_changes _ _ _ _ _)
    · next hc =>
      split
      · exact .refl
      · exact htaken (by simp [hc]) (by simp [hc])
    · next hm ha _ => exact htaken hm (ha none)

theorem claimObject_changes {s : State} (k p r g : Byte) (hp : p ≠ 0 → s.Foreign (byteAddr p)) :
    Changes w s (claimObject k p r g s) := by
  rw [claimObject]
  split
  · exact .refl
  next hp0 =>
  have hq := hp hp0
  generalize byteAddr p = q at hq ⊢
  split
  · rw [claimObjectHeld]
    split
    · exact .refl
    · next e he =>
      have htaken (h : e.claim ≠ .mine) (h' : e.claim ≠ .asking none) :
          Changes w s (produce (.taken k q g) (setClaimGen k (.theirs q) g s)) :=
        (setClaimGen_yields g he (.theirs hq) (absurd · h) (absurd · h')).trans (.notice _ rfl _)
      split
      · next hc => exact split_changes he hc (.theirs hq) q g g
      · next hc => exact (lostAsk_changes he hc hq).trans (refuseOnce_changes _ _ _ _ _)
      · next hc =>
        split
        · exact .refl
        · exact htaken (by simp [hc]) (by simp [hc])
      · next hm ha _ => exact htaken hm (ha none)
  · rw [claimObjectEarlier]
    split
    · exact .refl
    · next e he =>
      split
      · next hc => exact split_changes he hc (.peerAsking hq _) q g e.gen
      · next hc =>
        exact ((Change.askRemoved k).run.trans (deferTo_changes (s := removeAsk k s) he hq (by simp [hc])
          fun _ => mem_normal_removeAsk k s)).trans (refuseOnce_changes _ _ _ _ _)
      · next hc => exact deferTo_changes he hq (by simp [hc]) (by simp [hc])
      · exact .refl

theorem freed_changes {s : State} {k : Byte} {e : Entry} (he : s.entry k = some e) (hpeers : e.claim.peers = true)
    (n : Notice) (hn : n.isLost = false) : Changes w s (becomeFree k (produce n s)) :=
  (Changes.notice n hn s).trans (becomeFree_changes (by simpa using he) hpeers)

theorem claimFree_changes (p : Addr) (k : Byte) (withdrawn : Bool) (s : State) :
    Changes w s (claimFree p k withdrawn s) := by
  rw [claimFree]
  split
  · exact .refl
  · next e he =>
    split
    · next hc =>
      split
      · exact freed_changes he (by simp [hc, Claim.peers]) _ rfl
      · exact .count _ _
    · next hc =>
      split
      · exact becomeFree_changes he (by simp [hc, Claim.peers])
      · exact .count _ _
    · exact .count _ _

theorem claimPairs_changes {s : State} {p : Addr} (hp : s.Foreign p) (pairs : List (Byte × Byte)) :
    Changes w s (claimPairs p pairs s) :=
  .foldl fun _ pair _ ht => claimHold_changes (hp.of_changes ht) false pair.1 pair.2

theorem reconcileKey_changes (p : Addr) (pairs : List (Byte × Byte)) (k : Byte) (s : State) :
    Changes w s (reconcileKey p pairs k s) := by
  rw [reconcileKey]
  split
  · exact .refl
  · next e he =>
    split
    · next hc =>
      split
      · exact freed_changes he (by simp [hc, Claim.peers]) _ rfl
      · exact .refl
    · exact .refl

theorem reconcile_changes {s : State} {p : Addr} (hp : s.Foreign p) (pairs : List (Byte × Byte)) :
    Changes w s (reconcile p pairs s) :=
  (claimPairs_changes hp pairs).trans (.overKeys (reconcileKey_changes p pairs) _ _)

theorem orphanKey_changes (p : Addr) (k : Byte) (s : State) : Changes w s (orphanKey p k s) := by
  rw [orphanKey]
  split
  · exact .refl
  · next e he =>
    split
    · next hc =>
      split
      · exact freed_changes he (by simp [hc, Claim.peers]) _ rfl
      · exact .refl
    · next hc =>
      split
      · exact freed_changes he (by simp [hc, Claim.peers]) _ rfl
      · exact .refl
    · exact .refl

theorem orphanRelease_changes (p : Addr) (s : State) : Changes w s (orphanRelease p s) :=
  .overKeys (orphanKey_changes p) _ _

/-- Removing a HOLD order and producing a notice do not meet. -/
theorem removeHold_produce (k : Byte) (n : Notice) (s : State) :
    removeHold k (produce n s) = produce n (removeHold k s) := by
  rw [produce_eq n s, produce_eq_of_congr (s := s) (t := removeHold k s) rfl rfl rfl]
  rfl

theorem selfExpireKey_changes (k : Byte) (s : State) : Changes w s (selfExpireKey k s) := by
  rw [selfExpireKey]
  split
  · exact .refl
  · next e he =>
    split
    · next hc =>
      have hfreed : Changes w s (setClaim k .free (removeHold k s)) :=
        (Change.holdRemoved k).run.trans (setClaim_yields (s := removeHold k s) he .free
          (fun _ => mem_urgent_removeHold k s) (by simp [hc]))
      rw [removeHold_produce]
      exact (hfreed.trans (.notice _ rfl _)).trans (requestFree_changes false (by
        rw [entry_produce, entry_setClaim, entry_removeHold, he]
        rfl))
    · next v hc =>
      exact ((withdrawAsk_changes he hc v).trans (setWant_none_changes k _)).trans (.notice _ rfl _)
    · split
      · exact (setWant_none_changes k s).trans (.notice _ rfl _)
      · exact .refl

theorem selfExpiry_changes (s : State) : Changes w s (selfExpiry s) := .overKeys selfExpireKey_changes _ _

theorem releaseMine_changes {s : State} {k : Byte} {e : Entry} (he : s.entry k = some e) (hc : e.claim = .mine) :
    Changes w s (releaseMine k s) :=
  (Change.released k (by simp [State.claimOf, he, hc])).run

theorem releaseAsking_changes {s : State} {k : Byte} {e : Entry} {v : Option Time} (he : s.entry k = some e)
    (hc : e.claim = .asking v) (x : Option Time) : Changes w s (releaseAsking k x s) :=
  (withdrawAsk_changes he hc x).trans (setWant_none_changes k _)

theorem leaveKey_changes (k : Byte) (s : State) : Changes w s (leaveKey k s) := by
  rw [leaveKey]
  split
  · exact .refl
  · next e he =>
    split
    · next hc => exact releaseMine_changes he hc
    · next v hc => exact releaseAsking_changes he hc v
    · exact setWant_none_changes k s

theorem grantKey_changes {s : State} {k : Byte} {e : Entry} {t : Time} (he : s.entry k = some e)
    (hc : e.claim = .asking (some t)) : Changes w s (grantKey k e s) := by
  have hgranted : Changes w s (setClaimGen k .mine (e.gen + 1) s) := by
    refine (Change.entryMoves k (fun f => { f with claim := .mine, gen := e.gen + 1 }) (fun _ => rfl)
      fun f _ _ hf => ?_).run
    obtain rfl : e = f := by simpa [he] using hf
    exact { key := rfl, want := Or.inl, claim := .granted hc }
  exact ((hgranted.trans (setWant_none_changes k _)).trans (.notice _ rfl _)).trans
    (requestHold_changes (by simp [State.claimOf, entry_setWant, entry_setClaimGen, he]))

theorem windowExpires_changes (k : Byte) (s : State) : Changes w s (windowExpires k s) := by
  rw [windowExpires]
  split
  · exact .refl
  · next e he =>
    split
    · next hc =>
      split
      · exact grantKey_changes he hc
      · exact .refl
    · exact .refl

theorem deferralExpires_changes (k : Byte) (s : State) : Changes w s (deferralExpires k s) := by
  rw [deferralExpires]
  split
  · exact .refl
  · next e he =>
    split
    · next hc =>
      split
      · exact becomeFree_changes he (by simp [hc, Claim.peers])
      · exact .refl
    · exact .refl

theorem claimTimerExpires_changes (k : Byte) (s : State) : Changes w s (claimTimerExpires k s) := by
  rw [claimTimerExpires]
  split
  · exact (windowExpires_changes k s).trans (deferralExpires_changes k _)
  · exact .refl

end Sys2Proof.Machine

namespace Sys2Proof.Machine
variable {w : Bool}

/-! ### The key commands -/

theorem askFree_changes {before s : State} {k : Byte} {v : Want} {e : Entry} (hbefore : Changes w before s)
    (he : s.entry k = some e) (hfree : e.claim = .free) (hst : s.station.takesAsk = true) :
    Changes w before (askFree k v before s) := by
  rw [askFree]
  split
  · next t ht =>
    exact ((hbefore.trans (setWant_changes k v s fun _ => hst)).trans
      (startAsk_changes (e := { e with want := v }) (by simp [entry_setWant, he]) hfree (.inl hst) ht)).trans
      (.answer _ _ _ _)
  · exact .answer _ _ _ _

theorem askBusy_changes {s : State} {k : Byte} (v : Want) (e : Entry) (hst : s.station.takesAsk = true) :
    Changes w s (askBusy k v e s) := by
  rw [askBusy]
  split
  · exact .answer _ _ _ _
  · exact .answer _ _ _ _
  · split
    · exact .answer _ _ _ _
    · exact (setWant_changes k .wait s fun _ => hst).trans (.answer _ _ _ _)

/-- The allocated entry is found. -/
theorem entry_allocated {s : State} {k : Byte} {t : List (Option Entry)} (habsent : s.entry k = none)
    (ht : allocate (newEntry k) s.table = some t) : ({ s with table := t } : State).entry k = some (newEntry k) := by
  obtain ⟨pre, post, hs, rfl, -⟩ := allocate_some ht
  exact (entryAt_allocated habsent hs).entry

theorem askEntry_changes {s : State} {k : Byte} (v : Want) (hst : s.station.takesAsk = true)
    (hk : validKey k = true) : Changes w s (askEntry k v s) := by
  rw [askEntry]
  split
  · next e he =>
    split
    · next hfree => exact askFree_changes .refl he hfree hst
    · exact askBusy_changes v e hst
  · next habsent =>
    split
    · exact .answer _ _ _ _
    · next t ht =>
      exact askFree_changes (Change.allocates k t habsent hk ht).run (entry_allocated habsent ht) rfl hst

theorem askCommand_changes (k mode : Byte) (s : State) : Changes w s (askCommand k mode s) := by
  rw [askCommand]
  by_cases hst : s.station.takesAsk = true
  · by_cases hk : validKey k = true
    · simp only [hst, hk, Bool.not_true, Bool.false_eq_true, if_false]
      split
      · exact askEntry_changes .once hst hk
      · split
        · exact askEntry_changes .wait hst hk
        · exact .answer _ _ _ _
    · simpa [hst, hk] using Changes.answer _ _ _ s
  · simpa [hst] using Changes.answer _ _ _ s

theorem releaseEntry_changes {s : State} {k : Byte} {e : Entry} (he : s.entry k = some e) :
    Changes w s (releaseEntry k e s) := by
  rw [releaseEntry]
  split
  · next hc => exact (releaseMine_changes he hc).trans (.answer _ _ _ _)
  · next v hc => exact (releaseAsking_changes he hc v).trans (.answer _ _ _ _)
  · exact .answer _ _ _ _
  · split
    · exact (setWant_none_changes k s).trans (.answer _ _ _ _)
    · exact .answer _ _ _ _

theorem releaseCommand_changes (k : Byte) (s : State) : Changes w s (releaseCommand k s) := by
  rw [releaseCommand]
  split
  · exact .answer _ _ _ _
  · split
    · exact .answer _ _ _ _
    · split
      · exact .answer _ _ _ _
      · next e he => exact releaseEntry_changes he

theorem watchCommand_changes (k : Byte) (s : State) : Changes w s (watchCommand k s) := by
  rw [watchCommand]
  split
  · exact .answer _ _ _ _
  · split
    · exact .answer _ _ _ _
    · next hk =>
      split
      · exact .answer _ _ _ _
      · next habsent =>
        split
        · exact .answer _ _ _ _
        · next t ht => exact (Change.allocates k t habsent (by simpa using hk) ht).run.trans (.answer _ _ _ _)

theorem unwatchCommand_changes (k : Byte) (s : State) : Changes w s (unwatchCommand k s) := by
  rw [unwatchCommand]
  split
  · exact .answer _ _ _ _
  · split
    · exact .answer _ _ _ _
    · split
      · exact .answer _ _ _ _
      · next e he =>
        split
        · exact .answer _ _ _ _
        · next hidle => exact (Change.vacates k e he (by simpa using hidle)).run.trans (.answer _ _ _ _)

theorem queryCommand_changes (k : Byte) (s : State) : Changes w s (queryCommand k s) := by
  rw [queryCommand]
  split
  · exact .answer _ _ _ _
  · split
    · exact .answer _ _ _ _
    · split <;> exact .answer _ _ _ _

/-! ### The Presence Unit and the Post Unit -/

theorem framesUp_bounds (n : Nat) : 1 ≤ framesUp n ∧ framesUp n ≤ 255 := by
  rw [framesUp]; omega

theorem peerHeard_changes {s : State} {p : Addr} (hp : s.Foreign p) (flag : Option Bool) :
    Changes w s (peerHeard p flag s) := by
  rw [peerHeard]
  split
  · next e _ => exact (Change.peerHears p _ hp rfl (framesUp_bounds e.frames).1 (framesUp_bounds e.frames).2).run
  · exact (Change.peerHears p _ hp rfl (by simp) (by simp)).run.trans (.notice _ rfl _)

theorem peerDeparts_changes (p : Addr) (s : State) : Changes w s (peerDeparts p s) := by
  rw [peerDeparts]
  split
  · exact ((Change.peerGoes p).run.trans (.notice _ rfl _)).trans (orphanRelease_changes p _)
  · exact orphanRelease_changes p s

theorem peerGoesSilent_changes (p : Addr) (s : State) : Changes w s (peerGoesSilent p s) := by
  rw [peerGoesSilent]
  split
  · exact ((Change.peerGoes p).run.trans (.notice _ rfl _)).trans (orphanRelease_changes p _)
  · exact .refl

theorem requestPresence_changes (s : State) : Changes w s (requestPresence s) := Change.presenceOrder.run

theorem presenceDue_changes (s : State) : Changes w s (presenceDue s) := by
  rw [presenceDue]
  split
  · split
    · exact (requestPresence_changes _).behind rfl rfl
    · exact .refl
  · exact .refl

theorem silenceDue_changes (s : State) : Changes w s (silenceDue s) := by
  rw [silenceDue]
  split
  · have hrestart : Changes w s { s with own := { s.own with silence := some 0 } } := .same rfl rfl
    dsimp only
    split
    · exact hrestart.trans (selfExpiry_changes _)
    · exact hrestart
  · exact .refl

/-- Taken key by key, held asks place orders of theirs: which join the lane is a part of the keys. -/
theorem overKeys_placeHeld_sublist {s : State} (hst : s.station.transmits = true) (ks : List Byte) :
    ∃ held : List Byte, held.Sublist ks ∧ (∀ k ∈ held, s.claimOf k = some (.asking none)) ∧
      overKeys placeHeld ks s = { s with normal := s.normal ++ held.map .ask } := by
  induction ks generalizing s with
  | nil => exact ⟨[], .slnil, nofun, by simp [overKeys]⟩
  | cons k ks ih =>
    have hcons : overKeys placeHeld (k :: ks) s = overKeys placeHeld ks (placeHeld k s) := rfl
    by_cases hplaces : s.askUnsent k = true ∧ s.normal.length < 21
    · obtain ⟨held, hsub, hheld, hkeys⟩ := ih (s := { s with normal := s.normal ++ [.ask k] }) hst
      refine ⟨k :: held, hsub.cons_cons k, fun j hj => ?_, ?_⟩
      · rcases List.mem_cons.mp hj with rfl | hj
        · simpa [State.askUnsent] using hplaces.1
        · exact hheld j hj
      · rw [hcons, placeHeld_of_unsent hplaces.1 hst hplaces.2, hkeys]
        simp
    · have hnothing : placeHeld k s = s := by
        by_cases hk : s.askUnsent k = true
        · obtain ⟨e, he, hc⟩ : ∃ e, s.entry k = some e ∧ e.claim = .asking none := by
            simpa [State.askUnsent, State.claimOf] using hk
          have hfull : ¬ s.normal.length < 21 := fun h => hplaces ⟨hk, h⟩
          simp [placeHeld, he, hc, requestAsk, hst, normalCapacity, hfull]
        · exact placeHeld_of_not_unsent (by simpa using hk)
      obtain ⟨held, hsub, hheld, hkeys⟩ := ih (s := s) hst
      exact ⟨held, hsub.cons k, hheld, by rw [hcons, hnothing, hkeys]⟩

theorem listenExpires_changes (s : State) : Changes w s (listenExpires s) := by
  rw [listenExpires]
  split
  · split
    · next hgo =>
      obtain ⟨hst, -⟩ := hgo
      let active : State := { s with station := .active, own := { s.own with listen := none } }
      let joined : State := produce (.joined active.presentPeers) active
      have hstation : joined.station = .active := produce_station _ active
      have htable : joined.table = s.table := produce_table _ active
      obtain ⟨held, hsub, hheld, hkeys⟩ :=
        overKeys_placeHeld_sublist (s := joined) (by rw [hstation]; rfl) joined.keysAscending
      let listened : State := { s with station := .active, normal := s.normal ++ held.map .ask }
      have hlistened : Changes w s listened :=
        (Change.listened held hst
          (fun h => hsub.nodup (nodup_keysAscending (s := joined) (by rw [htable]; exact h.2.1)))
          (by simpa only [State.claimOf, State.entry, htable] using hheld)).run
      let rested : State := { listened with own := { s.own with listen := none } }
      have hrested : Changes w listened rested := .same rfl rfl
      have heq : overKeys placeHeld joined.keysAscending joined = produce (.joined active.presentPeers) rested := by
        rw [hkeys, produce_eq_of_congr (s := active) (t := rested) rfl rfl rfl, produce_normal]
        simp only [joined]
        rw [produce_eq]
      show Changes w s (overKeys placeHeld joined.keysAscending joined)
      rw [heq]
      exact (hlistened.trans hrested).trans (.notice _ rfl _)
    · exact .refl
  · exact .refl

theorem zeroTimerExpires_changes (t : PausedTimer) (s : State) : Changes w s (zeroTimerExpires t s) := by
  cases t with
  | claim k => exact claimTimerExpires_changes k s
  | listen =>
    simp only [zeroTimerExpires]
    split
    · exact listenExpires_changes s
    · exact .refl

/-- Following the lanes moves the condition between those of a station that makes no attempt. -/
theorem refreshAccess_changes (s : State) : Changes w s (refreshAccess s) := by
  have hready : s.readyCondition.waits = true := by
    rcases readyCondition_cases s with h | h <;> rw [h] <;> rfl
  rw [refreshAccess_eq]
  rcases refreshAccess_cases s with h | ⟨ha, -, h⟩ | ⟨ha, -, h⟩ <;> rw [h]
  · exact .refl
  · exact (Change.waits _ (by rw [ha]; rfl) hready).run
  · exact (Change.waits _ (by rcases ha with ha | ha <;> rw [ha] <;> rfl) rfl).run

theorem settled_changes {f : State → State} {s : State} (h : Changes w s (f s)) : Changes w s (settled f s) :=
  h.trans (refreshAccess_changes _)

theorem useFree_changes (n : Nat) (s : State) : Changes w s (useFree n s) := by
  rw [useFree]
  split
  · exact .same rfl rfl
  · exact .refl

theorem resumeTimers_changes (s : State) : Changes w s (resumeTimers s) :=
  (useFree_changes _ s).trans (.foldl fun t e _ _ => settled_changes (zeroTimerExpires_changes e t))

theorem deliver_changes {s : State} {m : Mail} (hsource : s.Foreign m.source) (hsome : 1 ≤ m.payload.length)
    (hfits : m.payload.length ≤ 16) : Changes w s (deliver m s) := by
  rw [deliver]
  split
  · next hroom => exact (Change.mailJoins m hsource hsome hfits hroom).run
  · exact (Changes.count _ s).trans (.notice _ rfl _)

theorem takePost_changes {s : State} {p : Addr} {payload : List Byte} (hp : s.Foreign p) (hsome : 1 ≤ payload.length)
    (hfits : payload.length ≤ 16) (d : Byte) : Changes w s (takePost p d payload s) := by
  rw [takePost]
  split
  · split
    · split
      · exact deliver_changes hp hsome hfits
      · exact .refl
    · exact .refl
  · split
    · exact deliver_changes hp hsome hfits
    · exact .refl

theorem postCommand_changes (d tag length : Byte) (payload : List Byte) (s : State) :
    Changes w s (postCommand d tag length payload s) := by
  rw [postCommand]
  split
  · exact .answer _ _ _ _
  · split
    · exact .answer _ _ _ _
    · split
      · exact .answer _ _ _ _
      · split
        · exact .answer _ _ _ _
        · next h => exact (Change.postOrder _ (Nat.lt_of_not_le h)).run.trans (.answer _ _ _ _)

/-! ### Station Control -/

theorem establishCommand_changes (su v retry mask bcast : Byte) (s : State) :
    Changes w s (establishCommand su v retry mask bcast s) := by
  rw [establishCommand]
  split
  · exact .answer _ _ _ _
  split
  · exact .answer _ _ _ _
  split
  · exact .answer _ _ _ _
  next hrange =>
  split
  · exact .answer _ _ _ _
  next hst =>
  let c : Configuration :=
    { silenceUnit := su, window := v, retryLimit := retry, mask := mask, broadcast := bcast == 1 }
  let counting : State := { s with own := { s.own with silence := some 0 } }
  have hcounting : Changes w s counting := .same rfl rfl
  have hestablished := (Change.established (world := w) (s := counting) c bcast (by simpa using hst)
    (by simpa using hrange)).run
  have haccepted : Changes w s (establishAccepted c s) :=
    (hcounting.trans hestablished).trans (requestPresence_changes _)
  exact haccepted.trans (.answer _ _ _ _)

/-- A muted key changes its entry and the notices: with another table set beneath, only the notices are left. -/
theorem muteKey_notices (k : Byte) (t : List (Option Entry)) (s : State) :
    Changes w { s with table := t } { muteKey k s with table := t } := by
  have hproduce (n : Notice) (hn : n.isLost = false) (u : State) (hu : u.config = s.config)
      (hq : u.notices = s.notices) (hc : u.counters = s.counters)
      (heq : ({ u with table := t } : State) = { s with table := t }) :
      Changes w { s with table := t } { produce n u with table := t } := by
    have hsame : ({ produce n u with table := t } : State) = produce n { u with table := t } := by
      rw [produce_eq_of_congr (s := u) (t := { u with table := t }) rfl rfl rfl, produce_eq n u]
    rw [hsame, heq]
    exact .notice n hn _
  rw [muteKey]
  split
  · exact .refl
  · split
    · exact hproduce _ rfl _ rfl rfl rfl rfl
    · exact hproduce _ rfl _ rfl rfl rfl rfl
    · split
      · exact hproduce _ rfl _ rfl rfl rfl rfl
      · exact .refl

theorem overKeys_muteKey_notices (ks : List Byte) (t : List (Option Entry)) (s : State) :
    Changes w { s with table := t } { overKeys muteKey ks s with table := t } := by
  induction ks generalizing s with
  | nil => exact .refl
  | cons k ks ih => exact (muteKey_notices k t s).trans (ih (muteKey k s))

theorem produceAll_changes {ns : List Notice} (h : ∀ n ∈ ns, n.isLost = false) (s : State) :
    Changes w s (produceAll ns s) :=
  .foldl fun t n hn _ => .notice n (h n hn) t

theorem enterMute_changes {s : State} (cause : LineFault) (hon : s.access ≠ .off ∨ s.station.transmits = true) :
    Changes w s (enterMute cause s) := by
  let stopped : State := stopTransmitting { s with station := .mute, leaveLimit := none }
  let muted : State := overKeys muteKey stopped.keysAscending stopped
  have htable : stopped.table = s.table := by
    show (stopTransmitting { s with station := .mute, leaveLimit := none }).table = _
    rw [stopTransmitting_eq]
  have hentries : s.TableLaw → muted.table = s.table.map fun place => place.map mutedEntry := fun h => by
    show (overKeys muteKey stopped.keysAscending stopped).table = _
    rw [overKeys_muteKey (by rw [htable]; exact h.2.1), htable]
  have hcore := (Change.mutes (world := w) muted.table hon hentries).run
  let core : State :=
    { s with
      station := .mute, leaveLimit := none, urgent := [], normal := [], access := .off, driveFaults := 0 }
  have hstopped : stopped = produceAll (s.givenUp.map fun p => .postAbandoned p.tag) core := abandonPosts_eq _ _
  have hposts : Changes w { core with table := muted.table } { stopped with table := muted.table } := by
    have hsame : ({ stopped with table := muted.table } : State) =
        produceAll (s.givenUp.map fun p => .postAbandoned p.tag) { core with table := muted.table } := by
      obtain ⟨hn, hc⟩ := produceAll_congr (s := core) (t := { core with table := muted.table }) rfl rfl rfl
        (s.givenUp.map fun p => .postAbandoned p.tag)
      rw [produceAll_eq _ { core with table := muted.table }, hn, hc, hstopped]
      conv_lhs => rw [produceAll_eq]
    rw [hsame]
    exact produceAll_changes (by simp [Notice.isLost]) _
  have hkeys : Changes w { stopped with table := muted.table } muted :=
    overKeys_muteKey_notices stopped.keysAscending muted.table stopped
  have hown : Changes w muted (dropOwn muted) := .same rfl rfl
  exact (((hcore.trans hposts).trans hkeys).trans hown).trans (.notice _ rfl _)

theorem enterOffline_changes {s : State} (reason : LeftReason)
    (hon : s.access ≠ .off ∨ s.leaveLimit.isSome = true) : Changes w s (enterOffline reason s) := by
  let posts : List Notice := (s.slotPost.toList ++ lanePosts s.normal).map fun p => .postAbandoned p.tag
  let core : State :=
    { s with
      station := .offline, leaveLimit := none, urgent := [], normal := [], access := .off, driveFaults := 0
      table := List.replicate 16 none, roster := List.replicate 32 none, own := OwnEntry.absent }
  have hcore : Changes w s core :=
    (Change.goesOffline hon).run.trans (.same rfl rfl)
  have hsame : enterOffline reason s = produceAll (posts ++ [.left reason]) core := by
    obtain ⟨hn, hc⟩ := produceAll_congr (s := s) (t := core) rfl rfl rfl (posts ++ [.left reason])
    rw [enterOffline_eq, produceAll_eq, hn, hc]
    rfl
  rw [hsame]
  refine hcore.trans (produceAll_changes (fun n hn => ?_) _)
  rcases List.mem_append.mp hn with hn | hn
  · obtain ⟨p, -, rfl⟩ := List.mem_map.mp hn
    rfl
  · rw [List.mem_singleton.mp hn]
    rfl

theorem clashTaken_changes (s : State) : Changes w s (clashTaken s) := by
  rw [clashTaken]
  split
  · exact .same rfl rfl
  · split
    · next h => exact enterMute_changes .clash (.inr h)
    · exact .refl

theorem leaveLimitExpires_changes (s : State) : Changes w s (leaveLimitExpires s) := by
  rw [leaveLimitExpires]
  split
  · next h => exact enterOffline_changes .unheard (.inr h)
  · exact .refl

/-- What an operation over one key keeps, it keeps over many. -/
theorem overKeys_keeps {α : Type} {f : Byte → State → State} (g : State → α) (h : ∀ k t, g (f k t) = g t)
    (ks : List Byte) (s : State) : g (overKeys f ks s) = g s := by
  induction ks generalizing s with
  | nil => rfl
  | cons k ks ih => exact (ih (f k s)).trans (h k s)

theorem leaveKey_keeps (k : Byte) (s : State) :
    (leaveKey k s).station = s.station ∧ tableKeys (leaveKey k s).table = tableKeys s.table := by
  have hkeys (f : Entry → Entry) (hf : ∀ e, (f e).key = e.key) (t : State) :
      tableKeys (setEntry k f t).table = tableKeys t.table := tableKeys_modify k f hf t.table
  simp only [leaveKey]
  (repeat' split) <;> simp [releaseMine, releaseAsking, withdrawAsk, setWant, setClaim, hkeys]
  all_goals split <;> simp [hkeys, removeAsk]

theorem leaveAccepted_changes {s : State} (hst : s.station.takesAsk = true) : Changes w s (leaveAccepted s) := by
  let left : State := overKeys leaveKey s.keysAscending s
  have hstation : left.station = s.station := overKeys_keeps State.station (fun k t => (leaveKey_keeps k t).1) _ s
  have hkeys : tableKeys left.table = tableKeys s.table :=
    overKeys_keeps (fun t : State => tableKeys t.table) (fun k t => (leaveKey_keeps k t).2) _ s
  have htransmits : s.station.transmits = true := by
    cases h : s.station <;> simp_all [StationState.takesAsk, StationState.transmits]
  have hentries : left.TableLaw → ∀ e, some e ∈ left.table → leftEntry e = e := fun htable e he => by
    have hnodup : (tableKeys s.table).Nodup := hkeys ▸ htable.2.1
    have hover : left = leaveRule.over s.keysAscending s :=
      (leaveRule_describes htransmits).overKeys_eq hnodup (nodup_keysAscending hnodup)
    rw [hover, KeyRule.over_keysAscending_table] at he
    obtain ⟨place, -, hplace⟩ := List.mem_map.mp he
    obtain ⟨d, -, rfl⟩ := Option.map_eq_some_iff.mp hplace
    simp only [leaveRule, leftEntry]
    cases d.claim <;> rfl
  let rested : State := { left with own := { left.own with listen := none } }
  have hrested : Changes w s rested :=
    (Changes.overKeys leaveKey_changes _ s).trans (.same rfl rfl)
  have hleaves := (Change.leaves (world := w) (s := rested) rested.halfSilence
    (by show left.station.takesAsk = true; rw [hstation]; exact hst) hentries).run
  refine hrested.trans ?_
  have heq : leaveAccepted s =
      { rested with
        station := .leaving, leaveLimit := some rested.halfSilence
        normal := rested.normal.filter (fun o => !o.isPresence) ++ [.presence true] } := by
    have htransmits' : rested.station.transmits = true := by
      show left.station.transmits = true
      rw [hstation]; exact htransmits
    show ({ requestLeaving rested with leaveLimit := some (requestLeaving rested).halfSilence, station := .leaving } : State) = _
    simp only [requestLeaving, htransmits', if_true]
    rfl
  rw [heq]
  exact hleaves

theorem leaveCommand_changes (s : State) : Changes w s (leaveCommand s) := by
  rw [leaveCommand]
  split
  · next h => exact (leaveAccepted_changes h).trans (.answer _ _ _ _)
  · exact .answer _ _ _ _

theorem restartCommand_changes (s : State) : Changes w s (restartCommand s) :=
  (Change.cleared (t := restarted s) rfl).run.trans (.answer _ _ _ _)

end Sys2Proof.Machine

namespace Sys2Proof.Machine
variable {w : Bool}

/-! ### The Access Engine -/

theorem endInYield_changes {s : State} {a : Attempt} (ha : s.access = .driving a) : Changes w s (endInYield a s) :=
  (Changes.count .yields s).trans (Change.handsBack (s := count .yields s) a ha).run

/-- The drive-fault count is gone after entry to MUTE, whatever it was. -/
theorem enterMute_driveFaults (cause : LineFault) (n : Nat) (s : State) :
    enterMute cause { s with driveFaults := n } = enterMute cause s := rfl

theorem endInDriveFault_changes {s : State} {a : Attempt} (ha : s.access = .driving a) :
    Changes w s (endInDriveFault a s) := by
  simp only [endInDriveFault]
  split
  · next h =>
    exact ((Changes.count .driveFaults s).trans (Change.faulted (s := count .driveFaults s) h).run).trans
      (Change.handsBack (s := { count .driveFaults s with driveFaults := s.driveFaults + 1 }) a ha).run
  · exact (Changes.count .driveFaults s).trans (enterMute_changes (s := count .driveFaults s) .drive
      (.inl (by simp [ha])))

theorem countNoisy_changes (noisy : Bool) (s : State) : Changes w s (countNoisy noisy s) := by
  rw [countNoisy]
  split
  · exact .count _ s
  · exact .refl

/-- An entry that is FREE when its own ASK completes announces that it was withdrawn (R23). -/
theorem ownAskCompletes_changes {s : State} {a : Attempt} {k : Byte} (ha : s.access = .driving a)
    (horder : a.order = .normal (.ask k)) :
    Changes w s (ownAskCompletes k { s with access := .slotWait, driveFaults := 0 }) := by
  have hdone : Changes w s { s with access := .slotWait, driveFaults := 0 } := (Change.slotDone a ha).run
  have hsame : ({ s with access := .slotWait, driveFaults := 0 } : State).entry k = s.entry k := rfl
  simp only [ownAskCompletes, hsame]
  split
  · exact hdone
  · next e he =>
    split
    · next hc => exact (Change.askSent k a s.windowTime ha horder (by simp [State.claimOf, he, hc])).run
    · exact hdone.trans (requestFree_changes true (by rw [hsame, he]; rfl))
    · exact hdone

theorem ownPresence_changes (joining : Bool) (s : State) : Changes w s (ownPresence joining s) := .same rfl rfl

theorem ownArrival_changes {s : State} {a : Attempt} (noisy : Bool) (ha : s.access = .driving a) :
    Changes w s (ownArrival a noisy s) := by
  have hframe (t : State) (n : Bool) : (countNoisy n t).access = t.access := by
    rw [countNoisy]; split <;> rfl
  let counted : State := countNoisy noisy (count .framesOwn s)
  let heard : State := ownHeard { counted with lastSource := counted.ownAddr }
  have hheard : Changes w s heard :=
    ((Changes.count .framesOwn s).trans (countNoisy_changes noisy _)).trans (.same rfl rfl)
  have haccess : heard.access = .driving a := (hframe _ noisy).trans ha
  have hdone : Changes w heard { heard with access := .slotWait, driveFaults := 0 } :=
    (Change.slotDone a haccess).run
  have harrival : ownArrival a noisy s =
      ownCompletes a.order a.frame.body.joiningFlag { heard with access := .slotWait, driveFaults := 0 } := rfl
  rw [harrival]
  refine hheard.trans ?_
  rcases ho : a.order with u | (k | leaving | p)
  · exact hdone
  · exact ownAskCompletes_changes haccess ho
  · simp only [ownCompletes]
    split
    · exact (hdone.trans (ownPresence_changes _ _)).trans (enterOffline_changes .heard (.inl nofun))
    · exact hdone.trans (ownPresence_changes _ _)
  · exact hdone.trans (.notice _ rfl _)

/-- The own drive goes on. -/
theorem drives_changes {s : State} {a : Attempt} (ha : s.access = .driving a) (driven checked : Nat) :
    Changes w s { s with access := .driving { a with driven := driven, checked := checked } } :=
  (Change.drives (world := w) a { a with driven := driven, checked := checked } ha rfl).run

theorem driveToVerdict_changes (n : Nat) (s : State) : Changes w s (driveToVerdict n s) := by
  rw [driveToVerdict]
  split
  · next a ha =>
    split
    · exact endInDriveFault_changes ha
    · exact drives_changes ha _ _
  · exact .refl

theorem handBit_changes (read : Level) (s : State) : Changes w s (handBit read s) := by
  rw [handBit]
  split
  · next a ha =>
    split
    · exact drives_changes ha _ _
    · exact drives_changes ha _ _
    · exact endInYield_changes ha
    · exact endInDriveFault_changes ha
  · exact .refl

theorem lineBusy_changes (s : State) : Changes w s { s with access := s.access.lineBusy } := by
  cases ha : s.access with
  | openWait => exact (Change.waits (s := s) .slotWait (by rw [ha]; rfl) rfl).run
  | off | empty | slotWait | driving _ => exact .same (by simp [State.view, Access.lineBusy, ha]) rfl

/-! ### The Frame Decoder -/

theorem discardFrame_changes (c : Counter) (s : State) : Changes w s (discardFrame c s) := .same rfl rfl

/-- The source of a frame in range that is not the own address is foreign. -/
theorem State.foreign_of_source {s : State} {f : Frame} (hrange : f.inRange = true) (hown : s.isOwn f.source = false) :
    s.Foreign f.source := by
  have hsource : f.source ≠ 0 := by
    simp only [Frame.inRange, Bool.and_eq_true, bne_iff_ne] at hrange
    exact hrange.1
  refine ⟨hsource, fun h => ?_⟩
  exact hsource (by simpa [State.isOwn, ← h] using hown)

/-- The precedent of an OBJECT in range that is no clash is nobody or foreign. -/
theorem State.foreign_of_precedent {s : State} {f : Frame} {k p r g : Byte} (hrange : f.inRange = true)
    (hclash : s.isClash f = false) (hbody : f.body = .object k p r g) (hp : p ≠ 0) : s.Foreign (byteAddr p) := by
  have hle : p.toNat ≤ 31 := by
    simp only [Frame.inRange, hbody, Bool.and_eq_true, decide_eq_true_eq] at hrange
    exact hrange.2.1.2
  have hback : addrByte (byteAddr p) = p := by
    apply BitVec.eq_of_toNat_eq
    simp [addrByte, byteAddr, BitVec.toNat_setWidth]
    omega
  refine ⟨fun h => hp ?_, fun h => ?_⟩
  · rw [← hback, h]; rfl
  · simp only [State.isClash, hbody, Bool.or_eq_false_iff, Bool.and_eq_false_iff, bne_eq_false_iff_eq,
      beq_eq_false_iff_ne] at hclash
    rcases hclash.2 with h0 | hne
    · exact hp (by rw [← hback, h, h0]; rfl)
    · exact hne (by rw [← h, hback])

theorem takeClash_changes {s : State} {f : Frame} (hrange : f.inRange = true) : Changes w s (takeClash f s) := by
  rw [takeClash]
  split
  · exact clashTaken_changes s
  · next h =>
    have hown : s.isOwn f.source = false := by
      simp only [Bool.or_eq_true, not_or] at h
      simpa using h.1
    exact (peerHeard_changes (s.foreign_of_source hrange hown) none).trans (clashTaken_changes _)

theorem presenceUnit_changes {s : State} {f : Frame} (hf : s.Foreign f.source) : Changes w s (presenceUnit f s) := by
  rw [presenceUnit]
  split
  · split
    · exact peerDeparts_changes _ s
    · exact peerHeard_changes hf _
  · exact peerHeard_changes hf _

theorem reconcileAndAnswer_changes {s : State} {p : Addr} (hp : s.Foreign p) (pairs : List (Byte × Byte)) :
    Changes w s (reconcileAndAnswer p pairs s) := by
  have hafter : Changes w s (requestPresence (reconcile p pairs s)) :=
    (reconcile_changes hp pairs).trans (requestPresence_changes _)
  have hrequest : Changes w s (requestPresence s) := requestPresence_changes s
  have hbefore : Changes w s (reconcile p pairs (requestPresence s)) :=
    hrequest.trans (reconcile_changes (hp.of_changes hrequest) pairs)
  simp only [reconcileAndAnswer]
  split
  · exact hafter
  · split
    · exact hbefore.trans (.same rfl rfl)
    · exact hafter.trans (.same rfl rfl)

theorem takePresence_changes {s : State} {p : Addr} (hp : s.Foreign p) (joining : Bool) (pairs : List (Byte × Byte)) :
    Changes w s (takePresence p joining pairs s) := by
  have hheard : Changes w s (peerHeard p (some joining) s) := peerHeard_changes hp _
  simp only [takePresence]
  split
  · exact hheard.trans (reconcileAndAnswer_changes (hp.of_changes hheard) pairs)
  · exact hheard.trans (reconcile_changes (hp.of_changes hheard) pairs)

theorem allBlocks_changes {s : State} {f : Frame} (hrange : f.inRange = true) (hclash : s.isClash f = false) :
    Changes w s (allBlocks f s) := by
  have hown : s.isOwn f.source = false := by
    simp only [State.isClash, Bool.or_eq_false_iff] at hclash
    exact hclash.1
  have hp := s.foreign_of_source hrange hown
  have hheard : Changes w s (peerHeard f.source none s) := peerHeard_changes hp none
  have hp' := hp.of_changes hheard
  rw [allBlocks]
  split
  · split
    · exact peerDeparts_changes _ s
    · exact takePresence_changes hp _ _
  · exact hheard.trans (claimAsk_changes hp' _)
  · next hbody =>
    exact hheard.trans (claimObject_changes _ _ _ _ fun h =>
      (s.foreign_of_precedent hrange hclash hbody h).of_changes hheard)
  · exact hheard.trans (claimHold_changes hp' true _ _)
  · exact hheard.trans (claimFree_changes _ _ _ _)
  · next d payload hbody =>
    have hlength : 1 ≤ payload.length ∧ payload.length ≤ 16 := by
      simp only [Frame.inRange, hbody, Bool.and_eq_true, decide_eq_true_eq] at hrange
      exact ⟨hrange.2.1.2, hrange.2.2⟩
    exact hheard.trans (takePost_changes hp' hlength.1 hlength.2 d)

theorem dispatch_changes {s : State} {f : Frame} (hrange : f.inRange = true) (hclash : s.isClash f = false) :
    Changes w s (dispatch f s) := by
  have hown : s.isOwn f.source = false := by
    simp only [State.isClash, Bool.or_eq_false_iff] at hclash
    exact hclash.1
  rw [dispatch]
  split
  · exact .refl
  · exact presenceUnit_changes (s.foreign_of_source hrange hown)
  · exact allBlocks_changes hrange hclash

theorem foreignFrame_changes {f : Frame} (noisy : Bool) (s : State) (hrange : f.inRange = true) :
    Changes w s (foreignFrame f noisy s) := by
  have htook : Changes w s { countNoisy noisy (count .framesOk s) with lastSource := f.source } :=
    ((Changes.count .framesOk s).trans (countNoisy_changes noisy _)).trans (.same rfl rfl)
  simp only [foreignFrame]
  split
  · exact htook.trans (takeClash_changes hrange)
  · next h => exact htook.trans (dispatch_changes hrange (by simpa using h))

theorem intactFrame_changes {f : Frame} (a : Assembly) (s : State) (hrange : f.inRange = true) :
    Changes w s (intactFrame f a s) := by
  rw [intactFrame]
  split
  · next t ht =>
    split
    · exact ownArrival_changes a.noisy ht
    · exact foreignFrame_changes a.noisy s hrange
  · exact foreignFrame_changes a.noisy s hrange

theorem checkFrame_changes (a : Assembly) (s : State) : Changes w s (checkFrame a s) := by
  simp only [checkFrame]
  split
  · split
    · split
      · next hrange => exact (intactFrame_changes a _ hrange).behind rfl rfl
      · exact .same rfl rfl
    · exact .same rfl rfl
  · exact .same rfl rfl

theorem growFrame_changes (a : Assembly) (s : State) : Changes w s (growFrame a s) := by
  rw [growFrame]
  split
  · exact .same rfl rfl
  · split
    · exact checkFrame_changes _ s
    · exact .same rfl rfl

theorem breakFrame_changes (s : State) : Changes w s (breakFrame s) := by
  rw [breakFrame]
  split
  · exact .same rfl rfl
  · exact .refl

theorem takeCharacter_changes (data : Byte) (mark noisy framingError : Bool) (s : State) :
    Changes w s (takeCharacter data mark noisy framingError s) := by
  have hbroken : Changes w s (brokenCharacter s) := by
    rw [brokenCharacter]
    split
    · exact .refl
    · exact .same rfl rfl
  have hmark : Changes w s (markCharacter data noisy s) := by
    simp only [markCharacter]
    split
    · exact (breakFrame_changes s).trans (.same rfl rfl)
    · exact (breakFrame_changes s).trans (growFrame_changes _ _)
  have hbody : Changes w s (bodyCharacter data noisy s) := by
    rw [bodyCharacter]
    split
    · exact .count _ s
    · exact growFrame_changes _ s
    · exact .refl
  rw [takeCharacter]
  split
  · exact .refl
  · split
    · exact hbroken
    · split
      · exact hmark
      · exact hbody

theorem gapReached_changes (s : State) : Changes w s (gapReached s) := by
  rw [gapReached]
  split
  · exact .same rfl rfl
  · exact .same rfl rfl
  · exact .refl

theorem longDominantReached_changes (s : State) : Changes w s (longDominantReached s) := by
  simp only [longDominantReached]
  split <;> exact .same rfl rfl

/-! ### The Line Monitor -/

theorem gapReached_monitor (s : State) : (gapReached s).monitor = s.monitor := by
  rw [gapReached]
  split <;> rfl

theorem settlingEnds_changes (s : State) : Changes w s (settlingEnds s) := by
  rw [settlingEnds]
  split
  · exact .quiet rfl fun _ _ => rfl
  · exact .refl

theorem stuckEnds_changes (s : State) : Changes w s (stuckEnds s) := by
  rw [stuckEnds]
  split
  · have hidle : Changes w s { s with monitor := .idle 0 0, lastSource := 0 } := .quiet rfl fun _ _ => rfl
    exact (hidle.trans (.notice _ rfl _)).trans (resumeTimers_changes _)
  · exact .refl

theorem isDriving_eq_false_iff (s : State) : s.isDriving = false ↔ ∀ a, s.access ≠ .driving a := by
  cases h : s.access <;> simp [State.isDriving, Access.attempt, h]

theorem isDriving_lineBusy (s : State) : ({ s with access := s.access.lineBusy } : State).isDriving = s.isDriving := by
  cases h : s.access <;> simp [State.isDriving, Access.lineBusy, Access.attempt, h]

theorem stuckBegins_changes {s : State} (h : s.isDriving = false) : Changes w s (stuckBegins s) := by
  have hstuck : Changes w s { s with access := s.access.lineBusy, monitor := .stuck 0 } :=
    (lineBusy_changes s).trans (.quiet rfl fun hd => absurd hd (by rw [isDriving_lineBusy, h]; simp))
  exact hstuck.trans (.notice _ rfl _)

theorem slotReached_changes (age : Nat) {s : State} (h : s.monitor.timersRun = true) :
    Changes w s (slotReached age s) := by
  rw [slotReached]
  split
  · next ha =>
    split
    · exact (Change.begins (by rw [ha]; rfl) h).run
    · exact .refl
  · next ha =>
    split
    · exact (Change.begins (by rw [ha]; rfl) h).run
    · exact .refl
  · exact .refl

theorem nextAge_changes (s : State) : Changes w s (nextAge s) := by
  rw [nextAge]
  split
  · next elapsed age _ =>
    dsimp only
    have hage : Changes w s { s with monitor := .idle elapsed (age + 1) } := .quiet rfl fun _ _ => rfl
    split
    · exact (hage.trans (gapReached_changes _)).trans (slotReached_changes _ (by rw [gapReached_monitor]; rfl))
    · exact hage.trans (slotReached_changes _ rfl)
  · exact .refl

theorem nextAges_changes (n : Nat) (s : State) : Changes w s (nextAges n s) := by
  induction n generalizing s with
  | zero => exact .refl
  | succ n ih => exact (nextAge_changes s).trans (ih _)

theorem catchUp_changes (s : State) : Changes w s (catchUp s) := by
  rw [catchUp]
  split
  · exact nextAges_changes _ s
  · exact .refl

/-! ### The Line Receiver -/

@[simp] theorem timersRun_verified (m : Monitor) : m.verified.timersRun = m.timersRun := by cases m <;> rfl

@[simp] theorem timersRun_characterEnds (m : Monitor) : m.characterEnds.timersRun = m.timersRun := by cases m <;> rfl

@[simp] theorem timersRun_released (m : Monitor) : m.released.timersRun = m.timersRun := by cases m <;> rfl

@[simp] theorem timersRun_moreRecessive (m : Monitor) : m.moreRecessive.timersRun = m.timersRun := by cases m <;> rfl

@[simp] theorem timersRun_noRecessive (m : Monitor) : m.noRecessive.timersRun = m.timersRun := by cases m <;> rfl

@[simp] theorem timersRun_afterClean (n : Nat) (m : Monitor) : (m.afterClean n).timersRun = m.timersRun := by
  cases m <;> rfl

@[simp] theorem timersRun_afterVerified (b : Bool) (m : Monitor) : (m.afterVerified b).timersRun = m.timersRun := by
  cases m <;> rfl

@[simp] theorem timersRun_afterFalse (r : Receiver) (m : Monitor) : (m.afterFalse r).timersRun = m.timersRun := by
  cases m <;> rfl

theorem startVerified_changes (noisy : Bool) (s : State) : Changes w s (startVerified noisy s) := by
  refine Changes.trans (t := { s with
    receiver := .receiving (verifiedStart noisy)
    monitor := s.monitor.verified
    access := match s.monitor with
      | .idle _ _ => s.access.lineBusy
      | _ => s.access }) ?_ (handBit_changes _ _)
  cases hm : s.monitor with
  | idle elapsed age => exact (lineBusy_changes s).trans (.quiet rfl fun _ _ => rfl)
  | settling n => exact .quiet rfl fun _ h => by rw [hm] at h; cases h
  | busy => exact .quiet rfl fun _ _ => rfl
  | stuck n => exact .quiet rfl fun _ h => by rw [hm] at h; cases h

theorem startRecessive_changes (s : State) : Changes w s (startRecessive s) := by
  rw [startRecessive]
  split
  · next ha => exact endInDriveFault_changes ha
  · exact .refl

theorem startFalse_changes (s : State) : Changes w s (startFalse s) := by
  have hsearching : Changes w s { s with receiver := .searching } := .same rfl rfl
  simp only [startFalse]
  split
  · exact (hsearching.trans (startRecessive_changes _)).trans (catchUp_changes _)
  · exact hsearching.trans (catchUp_changes _)

theorem characterEnds_changes (cut : Bool) (s : State) : Changes w s (characterEnds cut s) :=
  .quiet rfl fun _ h => by simpa [characterEnds] using h

theorem deliverCharacter_changes (r : Reception) (cut : Bool) (s : State) : Changes w s (deliverCharacter r cut s) :=
  (characterEnds_changes cut s).trans (takeCharacter_changes _ _ _ _ _)

theorem deliverFramingError_changes (r : Reception) (s : State) : Changes w s (deliverFramingError r s) :=
  (takeCharacter_changes _ _ _ _ { s with receiver := .recovering }).behind rfl rfl

theorem endBit_changes (r : Reception) (v : Level) (s : State) : Changes w s (endBit r v s) := by
  rw [endBit]
  split
  · exact deliverCharacter_changes r true s
  · exact .same rfl rfl

theorem takeBit_changes (r : Reception) (mids : List Level) (s : State) : Changes w s (takeBit r mids s) := by
  simp only [takeBit]
  split
  · exact (handBit_changes _ s).trans (deliverFramingError_changes _ _)
  · exact (handBit_changes _ s).trans (.same rfl rfl)

theorem receiveAt_changes (r : Reception) (q : Nat) (level : Level) (edge : Bool) (s : State) :
    Changes w s (receiveAt r q level edge s) := by
  rw [receiveAt]
  split
  · exact .same rfl rfl
  split
  · exact (handBit_changes _ s).trans (endBit_changes r _ _)
  split
  · exact endBit_changes r _ s
  split
  · exact .same rfl rfl
  split
  · exact takeBit_changes r _ s
  · exact .same rfl rfl

theorem verifyAt_changes (mids : List Level) (q : Nat) (level : Level) (edge : Bool) (s : State) :
    Changes w s (verifyAt mids q level edge s) := by
  rw [verifyAt]
  split
  · exact .same rfl rfl
  split
  · exact (startFalse_changes s).trans (.same rfl rfl)
  split
  · exact .same rfl rfl
  split
  · split
    · exact startVerified_changes _ s
    · exact startFalse_changes s
  · exact .same rfl rfl

theorem receive_changes (level : Level) (edge : Bool) (s : State) : Changes w s (receive level edge s) := by
  rw [receive]
  split
  · split
    · exact .quiet rfl fun _ h => by simpa using h
    · exact .refl
  · split
    · exact .same rfl rfl
    · exact .refl
  · exact verifyAt_changes _ _ level edge s
  · split
    · exact receiveAt_changes _ 1 level edge s
    · exact receiveAt_changes _ _ level edge s

/-! ### The rows of the line -/

theorem characterPasses_changes (data : Byte) (mark cut : Bool) (s : State) :
    Changes w s (characterPasses data mark cut s) := by
  have hpassed : ∀ m : Monitor, m.timersRun = s.monitor.timersRun →
      Changes w s (characterEnds cut (runEnds { s with access := s.access.lineBusy, monitor := m })) := fun m hm =>
    (lineBusy_changes s).trans (.quiet rfl fun _ h => by
      simpa [characterEnds, runEnds, hm] using h)
  simp only [characterPasses]
  split
  · exact (hpassed _ (timersRun_afterClean _ _)).trans (.same rfl rfl)
  · exact hpassed _ (timersRun_afterClean _ _)

theorem framingErrorPasses_changes (data : Byte) (mark : Bool) {s : State} (h : s.isDriving = false) :
    Changes w s (framingErrorPasses data mark s) :=
  (lineBusy_changes s).trans (.quiet rfl fun hd => absurd hd (by rw [isDriving_lineBusy, h]; simp))

theorem characterRow_changes (data : Byte) (mark noisy framingError cut : Bool) (s : State) :
    Changes w s (characterRow data mark noisy framingError cut s) := by
  rw [characterRow]
  split
  · exact .refl
  · split
    · next a ha =>
      dsimp only
      split
      · have hpasses := characterPasses_changes (w := w) data mark cut s
        have hframe : (characterPasses data mark cut s).access = .driving a := by
          simp only [characterPasses]
          split <;> simp [characterEnds, runEnds, ha, Access.lineBusy]
        exact (hpasses.trans (drives_changes hframe _ _)).trans (takeCharacter_changes _ _ _ _ _)
      · exact .refl
    · next hnot =>
      have hd : s.isDriving = false := (isDriving_eq_false_iff s).mpr hnot
      split
      · exact (framingErrorPasses_changes data mark hd).trans (takeCharacter_changes _ _ _ _ _)
      · exact (characterPasses_changes data mark cut s).trans (takeCharacter_changes _ _ _ _ _)

theorem framePasses_changes (s : State) : Changes w s (framePasses s) :=
  (lineBusy_changes s).trans (.quiet rfl fun _ h => by simpa [framePasses, characterEnds, runEnds] using h)

theorem arrival_changes (f : Frame) (noisy : Bool) (s : State) : Changes w s (arrival f noisy s) := by
  rw [arrival]
  split
  · exact .refl
  split
  · exact (framePasses_changes s).trans (.same rfl rfl)
  split
  · exact (framePasses_changes s).trans (discardFrame_changes _ _)
  · next h => exact (framePasses_changes s).trans (foreignFrame_changes noisy _ (by simpa using h))

theorem clashRow_changes (source : Addr) (noisy : Bool) (s : State) : Changes w s (clashRow source noisy s) := by
  rw [clashRow]
  split
  · exact .refl
  · exact arrival_changes _ noisy s

theorem bringAge_changes (target : Nat) (s : State) : Changes w s (bringAge target s) := by
  rw [bringAge]
  split
  · next elapsed age _ =>
    have hage : Changes w s { s with monitor := .idle (max elapsed (8 * target)) (max age target) } :=
      .quiet rfl fun _ _ => rfl
    dsimp only
    split
    · exact hage.trans (gapReached_changes _)
    · exact hage
  · exact .refl

theorem gapLimitRow_changes (s : State) : Changes w s (gapLimitRow s) := by
  rw [gapLimitRow]
  split
  · exact (bringAge_changes 4 s).trans (gapReached_changes _)
  · exact .refl

theorem settlingEndRow_changes (s : State) : Changes w s (settlingEndRow s) := by
  rw [settlingEndRow]
  split
  · exact (settlingEnds_changes _).behind rfl rfl
  · exact .refl

theorem longDominantRow_changes (s : State) : Changes w s (longDominantRow s) := by
  rw [longDominantRow]
  split
  · exact .refl
  · have hrun : Changes w s { s with run := some (max (s.run.getD 0) 88), monitor := s.monitor.noRecessive } :=
      .quiet rfl fun _ h => by simpa using h
    exact hrun.trans (longDominantReached_changes _)

theorem stuckBeginRow_changes (s : State) : Changes w s (stuckBeginRow s) := by
  rw [stuckBeginRow]
  split
  · exact .refl
  · next h =>
    simp only [Bool.or_eq_true, not_or, Bool.not_eq_true] at h
    exact (stuckBegins_changes
      (s := { s with run := some (max (s.run.getD 0) 880), longMark := true, receiver := s.receiver.afterRun })
      h.2).behind rfl rfl

theorem stuckEndRow_changes (s : State) : Changes w s (stuckEndRow s) := by
  rw [stuckEndRow]
  split
  · exact (stuckEnds_changes _).behind rfl rfl
  · exact .refl

theorem reachVerified_changes (noisy : Bool) (s : State) : Changes w s (reachVerified noisy s) :=
  .quiet rfl fun _ h => by simpa [reachVerified] using h

theorem reachFalse_changes (s : State) : Changes w s (reachFalse s) :=
  .quiet rfl fun _ h => by simpa [reachFalse] using h

theorem startBitVerifiedRow_changes (noisy : Bool) (s : State) : Changes w s (startBitVerifiedRow noisy s) := by
  rw [startBitVerifiedRow]
  split
  · exact ((driveToVerdict_changes _ s).trans (reachVerified_changes noisy _)).trans (startVerified_changes noisy _)
  · exact .refl

theorem falseStartRow_changes (s : State) : Changes w s (falseStartRow s) := by
  rw [falseStartRow]
  split
  · exact ((driveToVerdict_changes _ s).trans (reachFalse_changes _)).trans (startFalse_changes _)
  · exact .refl

theorem firstRecessiveRow_changes (s : State) : Changes w s (firstRecessiveRow s) := by
  rw [firstRecessiveRow]
  split
  · exact .quiet rfl fun _ h => by simpa using h
  · exact .refl

/-! ### The rows of the Access Engine -/

theorem bringAge_keeps (target : Nat) (s : State) :
    (bringAge target s).access = s.access ∧ (bringAge target s).monitor.timersRun = s.monitor.timersRun := by
  rw [bringAge]
  split
  · next hm =>
    dsimp only
    split
    · rw [gapReached_monitor]
      refine ⟨?_, by rw [hm]; rfl⟩
      rw [gapReached]
      split <;> rfl
    · exact ⟨rfl, by rw [hm]; rfl⟩
  · exact ⟨rfl, rfl⟩

theorem isWaiting_waits {s : State} (h : s.isWaiting = true) : s.access.waits = true := by
  cases ha : s.access <;> simp_all [State.isWaiting, Access.waits]

theorem attemptBeginRow_changes (s : State) : Changes w s (attemptBeginRow s) := by
  rw [attemptBeginRow]
  split
  · next hm =>
    split
    · next h =>
      simp only [Bool.and_eq_true] at h
      have hwaits := isWaiting_waits h.1.1
      refine ((bringAge_changes _ s).trans (bringAge_changes _ _)).trans (Change.begins ?_ ?_).run
      · rw [(bringAge_keeps _ _).1, (bringAge_keeps _ _).1]; exact hwaits
      · rw [(bringAge_keeps _ _).2, (bringAge_keeps _ _).2, hm]; rfl
    · exact .refl
  · exact .refl

theorem yieldRow_changes (s : State) : Changes w s (yieldRow s) := by
  rw [yieldRow]
  split
  · dsimp only
    generalize hv : (if s.awaitsVerdict = true then startVerified false (reachVerified false s) else s) = t
    have ht : Changes w s t := by
      rw [← hv]
      split
      · exact (reachVerified_changes false s).trans (startVerified_changes false _)
      · exact .refl
    split
    · next a ha =>
      have hbusy : Changes w t { t with monitor := t.monitor.verified } := .quiet rfl fun _ h => by simpa using h
      exact (ht.trans hbusy).trans (endInYield_changes (s := { t with monitor := t.monitor.verified }) ha)
    · exact ht
  · exact .refl

theorem driveFaultRow_changes (s : State) : Changes w s (driveFaultRow s) := by
  rw [driveFaultRow]
  split
  · next ha => exact endInDriveFault_changes ha
  · exact .refl

theorem attemptCompletesRow_changes (noisy : Bool) (s : State) : Changes w s (attemptCompletesRow noisy s) := by
  rw [attemptCompletesRow]
  split
  · next a ha =>
    have hframe : (framePasses s).access = .driving a := by
      simp [framePasses, characterEnds, runEnds, ha, Access.lineBusy]
    exact (framePasses_changes s).trans (ownArrival_changes noisy hframe)
  · exact .refl

end Sys2Proof.Machine

namespace Sys2Proof.Machine
variable {w : Bool}

/-! ### The Local Port -/

theorem selectPort_changes (s : State) : Changes w s (selectPort s) := by
  rw [selectPort]
  split
  · exact .same rfl rfl
  · exact .refl

theorem noteCode_changes (tx : Transaction) (s : State) : Changes w s (noteCode tx s) := by
  rw [noteCode]
  split
  · exact .same rfl rfl
  · exact .refl

theorem takeCode_changes (tx : Transaction) (s : State) : Changes w s (takeCode tx s) := by
  rw [takeCode]
  split
  · next a b _ =>
    exact (noteCode_changes tx
      { s with port := .running tx a b (s.responseOf tx).1 (s.responseOf tx).2 }).behind rfl rfl
  · exact .refl

theorem removeRecord_changes (tx : Transaction) (r : List Byte) (s : State) : Changes w s (removeRecord tx r s) := by
  cases tx with
  | status | unknown _ => exact .refl
  | fetchResult => exact .same rfl rfl
  | fetchNotice => exact (Change.noticeFetched r).run
  | fetchMail => exact Change.mailFetched.run

theorem raiseSelect_changes (n : Nat) (s : State) : Changes w s (raiseSelect n s) := by
  cases hport : s.port with
  | none => simp only [raiseSelect, hport]; exact .refl
  | selected a b => simp only [raiseSelect, hport]; exact .same rfl rfl
  | running tx a b r offered =>
    rw [raiseSelect_running hport]
    have hend : Changes w s (endTransaction tx a b r n s) := .same rfl rfl
    rw [removeClocked]
    split
    · exact hend.trans (removeRecord_changes tx r _)
    · exact hend

theorem transact_changes (tx : Transaction) (stage : PortStage) (s : State) : Changes w s (transact tx stage s) := by
  unfold transact
  split
  · exact .refl
  · split
    · exact selectPort_changes s
    · exact (selectPort_changes s).trans (takeCode_changes tx _)
    · split
      · exact raiseSelect_changes _ s
      · split
        · exact (selectPort_changes s).trans (raiseSelect_changes _ _)
        · exact ((selectPort_changes s).trans (takeCode_changes tx _)).trans (raiseSelect_changes _ _)

theorem takeKeyCommand_changes (code : Byte) {owner : Byte → State → State} (h : ∀ k s, Changes w s (owner k s))
    (fields : List Byte) (s : State) : Changes w s (takeKeyCommand code owner fields s) := by
  unfold takeKeyCommand
  split
  · exact h _ s
  · exact .answer _ _ _ s

theorem takeBareCommand_changes (code : Byte) {owner : State → State} (h : ∀ s, Changes w s (owner s))
    (fields : List Byte) (s : State) : Changes w s (takeBareCommand code owner fields s) := by
  unfold takeBareCommand
  split
  · exact h s
  · exact .answer _ _ _ s

theorem ownerTakes_changes (code : Byte) (fields : List Byte) (s : State) :
    Changes w s (ownerTakes code fields s) := by
  have hestablish : Changes w s (takeEstablish fields s) := by
    unfold takeEstablish
    split
    · exact establishCommand_changes _ _ _ _ _ s
    · exact .answer _ _ _ s
  have hask : Changes w s (takeAsk fields s) := by
    unfold takeAsk
    split
    · exact askCommand_changes _ _ s
    · exact .answer _ _ _ s
  have hpost : Changes w s (takePostCommand fields s) := by
    unfold takePostCommand
    split
    · exact postCommand_changes _ _ _ _ s
    · exact .answer _ _ _ s
  have hcounters : ∀ t : State, Changes w t (countersCommand t) := fun t => .same rfl rfl
  have hroster : ∀ t : State, Changes w t (rosterCommand t) := fun t => .answer _ _ _ t
  rw [ownerTakes]
  split
  · exact hestablish
  split
  · exact hask
  split
  · exact takeKeyCommand_changes code releaseCommand_changes fields s
  split
  · exact takeKeyCommand_changes code watchCommand_changes fields s
  split
  · exact takeKeyCommand_changes code unwatchCommand_changes fields s
  split
  · exact takeKeyCommand_changes code queryCommand_changes fields s
  split
  · exact takeBareCommand_changes code hroster fields s
  split
  · exact hpost
  split
  · exact takeBareCommand_changes code leaveCommand_changes fields s
  split
  · exact takeBareCommand_changes code restartCommand_changes fields s
  split
  · exact takeBareCommand_changes code hcounters fields s
  · exact .answer _ _ _ s

theorem takeRecord_changes (record : List Byte) (s : State) : Changes w s (takeRecord record s) := by
  unfold takeRecord
  split
  · exact .same rfl rfl
  · split
    · exact .same rfl rfl
    · exact ownerTakes_changes _ _ s

theorem endCommand_changes (a b : Byte) (record : List Byte) (s : State) : Changes w s (endCommand a b record s) := by
  simp only [endCommand]
  exact (takeRecord_changes _ _).behind rfl rfl

theorem commandTransaction_changes (record : List Byte) (s : State) :
    Changes w s (commandTransaction record s) := by
  rw [commandTransaction]
  split
  · exact endCommand_changes _ _ record s
  · exact endCommand_changes _ _ record s
  · exact .refl

theorem holdInReset_changes (s : State) : Changes w s (holdInReset s) := (Change.cleared rfl).run

/-! ### The rows -/

/-- A row of an operation that is a run of changes answers one. -/
theorem live_changes {f : State → State} {s : State} (h : Changes w s (f s)) :
    ∃ t, live f s = .next t ∧ Changes w s t := by
  refine ⟨_, rfl, ?_⟩
  split
  · exact .refl
  · exact settled_changes h

/-- Every row but the rise of RESET_N answers a run of changes. -/
theorem exec_changes (c : Instr) (s : State) :
    ∃ t, exec c s = .next t ∧ (Changes w s t ∨ ∃ addr rate, t = releaseReset addr rate s) := by
  have hrow {o : Host.Outcome State Fault Refusal} (h : ∃ t, o = .next t ∧ Changes w s t) :
      ∃ t, o = .next t ∧ (Changes w s t ∨ ∃ addr rate, t = releaseReset addr rate s) := by
    obtain ⟨t, ht, hc⟩ := h
    exact ⟨t, ht, .inl hc⟩
  cases c with
  | hardReset edge =>
    cases edge with
    | fall => exact ⟨_, rfl, .inl (holdInReset_changes s)⟩
    | rise addr rate => exact ⟨_, rfl, .inr ⟨addr, rate, rfl⟩⟩
  | status stage | fetchResult stage | fetchNotice stage | fetchMail stage =>
    exact hrow (live_changes (transact_changes _ stage s))
  | unknownTransactionCode code stage =>
    refine hrow (live_changes (f := fun t => if knownTransactionCode code then t else transact (.unknown code) stage t) ?_)
    split
    · exact .refl
    · exact transact_changes _ stage s
  | commandRefused record => exact hrow (live_changes (commandTransaction_changes record s))
  | unknownCommand code fields => exact hrow (live_changes (commandTransaction_changes (code :: fields) s))
  | establish fields | ask fields | release fields | watch fields | unwatch fields | query fields | roster fields
  | post fields | leave fields | restart fields | counters fields =>
    exact hrow (live_changes (commandTransaction_changes (_ :: fields) s))
  | character data mark noisy framingError cut =>
    exact hrow (live_changes (characterRow_changes data mark noisy framingError cut s))
  | gapLimit => exact hrow (live_changes (gapLimitRow_changes s))
  | settlingEnd => exact hrow (live_changes (settlingEndRow_changes s))
  | longDominant => exact hrow (live_changes (longDominantRow_changes s))
  | stuckBegin => exact hrow (live_changes (stuckBeginRow_changes s))
  | stuckEnd => exact hrow (live_changes (stuckEndRow_changes s))
  | presenceArrival source joining leaving pairs noisy => exact hrow (live_changes (arrival_changes _ noisy s))
  | askArrival source key noisy => exact hrow (live_changes (arrival_changes _ noisy s))
  | objectArrival source key precedent reason gen noisy => exact hrow (live_changes (arrival_changes _ noisy s))
  | holdArrival source key gen noisy => exact hrow (live_changes (arrival_changes _ noisy s))
  | freeArrival source key gen withdrawn noisy => exact hrow (live_changes (arrival_changes _ noisy s))
  | postArrival source destination payload noisy => exact hrow (live_changes (arrival_changes _ noisy s))
  | addressClash source noisy => exact hrow (live_changes (clashRow_changes source noisy s))
  | attemptBegin => exact hrow (live_changes (attemptBeginRow_changes s))
  | yield => exact hrow (live_changes (yieldRow_changes s))
  | driveFault => exact hrow (live_changes (driveFaultRow_changes s))
  | attemptCompletes noisy => exact hrow (live_changes (attemptCompletesRow_changes noisy s))
  | windowExpiry key => exact hrow (live_changes (windowExpires_changes key s))
  | deferralExpiry key => exact hrow (live_changes (deferralExpires_changes key s))
  | listenExpiry => exact hrow (live_changes (listenExpires_changes s))
  | leaveLimitExpiry => exact hrow (live_changes (leaveLimitExpires_changes s))
  | peerSilent peer => exact hrow (live_changes (peerGoesSilent_changes peer s))
  | presencePeriod => exact hrow (live_changes (presenceDue_changes s))
  | silenceCountExpiry => exact hrow (live_changes (silenceDue_changes s))
  | startBitVerified noisy => exact hrow (live_changes (startBitVerifiedRow_changes noisy s))
  | falseStart => exact hrow (live_changes (falseStartRow_changes s))
  | firstRecessiveSample => exact hrow (live_changes (firstRecessiveRow_changes s))

/-! ### The tick -/

theorem moment_changes (s : State) : Changes w s (moment s) := by
  rw [moment]
  split
  · split
    · exact settlingEnds_changes s
    · exact .refl
  · split
    · exact stuckEnds_changes s
    · exact .refl
  · next elapsed age _ =>
    have helapsed : Changes w s { s with monitor := .idle (elapsed + 1) age } := .quiet rfl fun _ _ => rfl
    dsimp only
    split
    · exact helapsed
    · exact helapsed.trans (catchUp_changes _)
  · exact .refl

theorem bitEnds_changes (s : State) : Changes w s (bitEnds s) := by
  rw [bitEnds]
  split
  · split
    · exact deliverCharacter_changes _ _ s
    · exact moment_changes s
  · exact moment_changes s

/-- The world moves by a sample, and with it the own drive. -/
theorem driveOn_changes (s : State) : Changes true s (driveOn s) := by
  have hworld : Changes true s { s with line := s.line.drop 1 } := (Change.worldMoves _ rfl).run
  rw [driveOn]
  cases ha : s.access with
  | driving a => exact hworld.trans (drives_changes (s := { s with line := s.line.drop 1 }) ha _ _)
  | off | empty | slotWait | openWait => exact hworld.trans (.same (by simp [State.view, ha]) rfl)

theorem measureRun_changes (level : Level) (s : State) : Changes w s (measureRun level s) := by
  cases level with
  | recessive => exact .quiet rfl fun _ h => by simpa [measureRun] using h
  | dominant =>
    have hdominant (n : Nat) (t : State) (ht : t = { s with run := some n, monitor := s.monitor.noRecessive }) :
        Changes w s
          (if 88 ≤ n ∧ t.longMark = false then longDominantReached t
            else if 880 ≤ n ∧ t.monitor.isStuck = false ∧ t.isDriving = false then stuckBegins t else t) := by
      have hrun : Changes w s t := .quiet (by rw [ht]; rfl) fun _ h => by rw [ht]; simpa using h
      split
      · exact hrun.trans (longDominantReached_changes t)
      · split
        · next h => exact hrun.trans (stuckBegins_changes h.2.2)
        · exact hrun
    exact hdominant _ _ rfl

theorem startOverdue_changes (s : State) : Changes w s (startOverdue s) := by
  rw [startOverdue]
  split
  · next ha =>
    split
    · exact endInDriveFault_changes ha
    · exact .refl
  · exact .refl

theorem samplePoint_changes (s : State) : Changes true s (samplePoint s) :=
  ((((settled_changes (bitEnds_changes s)).trans (driveOn_changes _)).trans (measureRun_changes _ _)).trans
    (receive_changes _ _ _)).trans (startOverdue_changes _)

theorem fireEvent_changes (e : TickEvent) (s : State) : Changes true s (fireEvent e s) := by
  have hif {P : Prop} [Decidable P] {t : State} (h : Changes true s t) : Changes true s (if P then t else s) := by
    split
    · exact h
    · exact .refl
  cases e with
  | sample => exact samplePoint_changes s
  | claim k => exact claimTimerExpires_changes k s
  | peer p => exact hif (peerGoesSilent_changes p s)
  | presence => exact hif (presenceDue_changes s)
  | silence => exact hif (silenceDue_changes s)
  | listen => exact hif (listenExpires_changes s)
  | leave => exact hif (leaveLimitExpires_changes s)

theorem fireEvents_changes (es : List TickEvent) (s : State) : Changes true s (fireEvents es s) :=
  .foldl fun t e _ _ => settled_changes (fireEvent_changes e t)

theorem beginOnOpenLine_changes (s : State) : Changes w s (beginOnOpenLine s) := by
  rw [beginOnOpenLine]
  split
  · next hm =>
    split
    · next h =>
      simp only [Bool.and_eq_true] at h
      exact (Change.begins (isWaiting_waits h.2) (by rw [hm]; rfl)).run
    · exact .refl
  · exact .refl

theorem tick_changes (s : State) : Changes true s (tick s) := by
  simp only [tick]
  split
  · exact (Change.worldMoves _ rfl).run
  · exact (((settled_changes (beginOnOpenLine_changes s)).trans Change.clocks.run).trans (useFree_changes _ _)).trans
      (fireEvents_changes _ _)

/-- The step: a run of changes from the state without the command taken, or a start of every block. -/
theorem step_changes {s t : State} (h : step s = .next t) :
    ∃ u : State, u.view = { s.view with pending := u.pending } ∧ u.monitor = s.monitor ∧
      (Changes true u t ∨ ∃ addr rate, t = releaseReset addr rate u) := by
  rw [step] at h
  split at h
  · next c rest _ =>
    obtain ⟨t', ht', hc⟩ := exec_changes (w := true) c { s with pending := rest }
    rw [ht'] at h
    cases h
    exact ⟨{ s with pending := rest }, rfl, rfl, hc⟩
  · cases h
    exact ⟨s, rfl, rfl, .inl (tick_changes s)⟩

/-- Packaged once: a law that the view decides, that every change keeps and that every start has, every step keeps. -/
theorem step_keeps {P : State → Prop} (hview : ∀ s t : State, s.view = { t.view with pending := s.pending } →
      s.monitor = t.monitor → P t → P s)
    (hchange : ∀ s t, Change true s t → P s → P t) (hstart : ∀ addr rate s, P (releaseReset addr rate s))
    {s t : State} (hs : P s) (h : step s = .next t) : P t := by
  obtain ⟨u, hu, hm, hc | ⟨addr, rate, rfl⟩⟩ := step_changes h
  · exact hc.keeps hchange (hview u s hu hm hs)
  · exact hstart addr rate u

/-- Settles O2: every row answers a run of changes in which the world does not move, or a start of every block; neither
touches the queue or the world. -/
theorem everyRowCompletes : Obligations.EveryRowCompletes := by
  intro c s
  obtain ⟨t, ht, hc | ⟨addr, rate, rfl⟩⟩ := exec_changes (w := false) c s
  · exact ⟨t, ht, hc.pending, hc.line⟩
  · exact ⟨_, ht, rfl, rfl⟩

end Sys2Proof.Machine

namespace Sys2Proof.Machine
variable {w : Bool}

/-! ### The table under a change of its entries -/

/-- A table whose entries are changed without their keys. -/
theorem tableKeys_map {g : Entry → Entry} (hg : ∀ e, (g e).key = e.key) (t : List (Option Entry)) :
    tableKeys (t.map fun place => place.map g) = tableKeys t := by
  induction t with
  | nil => rfl
  | cons x t ih => cases x <;> simp [tableKeys, hg, ih]

/-- The entry found for a key in such a table. -/
theorem findEntry_map {g : Entry → Entry} (hg : ∀ e, (g e).key = e.key) (k : Byte) (t : List (Option Entry)) :
    findEntry k (t.map fun place => place.map g) = (findEntry k t).map g := by
  induction t with
  | nil => rfl
  | cons x t ih =>
    cases x with
    | none => simpa [findEntry] using ih
    | some e => by_cases hk : e.key = k <;> simp [findEntry, hg, hk, ih]

/-- In a table without a key twice an entry that stands in it is the one found for its key. -/
theorem entry_of_mem {s : State} (h : (tableKeys s.table).Nodup) {e : Entry} (he : some e ∈ s.table) :
    s.entry e.key = some e := by
  obtain ⟨n, hn⟩ := List.getElem?_of_mem he
  exact (State.EntryAt.of_nodup h hn).entry

/-- The change of one key's entry as a change of every entry. -/
def atKey (k : Byte) (f : Entry → Entry) (e : Entry) : Entry := if e.key = k then f e else e

theorem setEntry_eq_map (k : Byte) (f : Entry → Entry) (s : State) :
    setEntry k f s = { s with table := s.table.map fun place => place.map (atKey k f) } := rfl

theorem atKey_key {k : Byte} {f : Entry → Entry} (hf : ∀ e, (f e).key = e.key) (e : Entry) :
    (atKey k f e).key = e.key := by
  rw [atKey]; split
  · exact hf e
  · rfl

/-! ### The law of the table -/

/-- What the law of the table says of one entry. -/
def EntryLaw (own : Addr) (e : Entry) : Prop :=
  validKey e.key = true ∧ (∀ h, e.claim = .theirs h → h ≠ 0 ∧ h ≠ own) ∧
    (∀ a d, e.claim = .peerAsking a d → a ≠ 0 ∧ a ≠ own)

theorem State.TableLaw.congr {s t : State} (h : s.TableLaw) (htable : t.table = s.table)
    (hown : t.ownAddr = s.ownAddr) : t.TableLaw := by
  rw [State.TableLaw, htable, hown]; exact h

/-- The law with every entry changed to one that keeps it. -/
theorem State.TableLaw.map {s t : State} {g : Entry → Entry} (h : s.TableLaw) (hg : ∀ e, (g e).key = e.key)
    (htable : t.table = s.table.map fun place => place.map g) (hown : t.ownAddr = s.ownAddr)
    (hentry : ∀ e, some e ∈ s.table → EntryLaw s.ownAddr e → EntryLaw s.ownAddr (g e)) : t.TableLaw := by
  obtain ⟨hlength, hnodup, hentries⟩ := h
  refine ⟨by rw [htable, List.length_map]; exact hlength, by rw [htable, tableKeys_map hg]; exact hnodup, ?_⟩
  rw [htable, hown]
  intro e he
  obtain ⟨place, hplace, hmap⟩ := List.mem_map.mp he
  obtain ⟨d, rfl, rfl⟩ := Option.map_eq_some_iff.mp hmap
  exact hentry d hplace (hentries d hplace)

/-- The law with the entry of one key changed. -/
theorem State.TableLaw.modify {s t : State} {k : Byte} {f : Entry → Entry} (h : s.TableLaw)
    (hf : ∀ e, (f e).key = e.key) (htable : t.table = modifyEntry k f s.table) (hown : t.ownAddr = s.ownAddr)
    (hentry : ∀ e, some e ∈ s.table → e.key = k → EntryLaw s.ownAddr e → EntryLaw s.ownAddr (f e)) : t.TableLaw :=
  h.map (g := atKey k f) (atKey_key hf) htable hown fun e he hlaw => by
    rw [atKey]
    split
    · next hk => exact hentry e he hk hlaw
    · exact hlaw

/-- An entry with its key, and a claim that names no peer. -/
theorem EntryLaw.nobody {own : Addr} {e d : Entry} (h : EntryLaw own e) (hkey : d.key = e.key)
    (hclaim : d.claim.peers = false) : EntryLaw own d :=
  ⟨hkey ▸ h.1, fun q hq => by simp [hq, Claim.peers] at hclaim, fun a t ha => by simp [ha, Claim.peers] at hclaim⟩

theorem State.EntryMoves.law {s : State} {e d : Entry} (h : s.EntryMoves e d) (he : EntryLaw s.ownAddr e) :
    EntryLaw s.ownAddr d := by
  obtain ⟨hkey, -, hclaim⟩ := h
  obtain ⟨hvalid, htheirs, hpeer⟩ := he
  rcases d with ⟨dk, dw, dg, c⟩
  simp only at hkey hclaim
  subst hkey
  cases hclaim with
  | stays => exact ⟨hvalid, htheirs, hpeer⟩
  | yields hc =>
    refine ⟨hvalid, fun q hq => ?_, fun a t ha => ?_⟩
    · simp only at hq; subst hq; cases hc with | theirs h => exact h
    · simp only at ha; subst ha; cases hc with | peerAsking h => exact h
  | granted => exact ⟨hvalid, nofun, nofun⟩

/-- A table with no entry. -/
theorem tableKeys_vacant (n : Nat) : tableKeys (List.replicate n none) = [] := by
  induction n with
  | zero => rfl
  | succ n ih => simpa [List.replicate_succ, tableKeys] using ih

theorem State.TableLaw.of_vacant {t : State} (h : t.table = List.replicate 16 none) : t.TableLaw := by
  refine ⟨by rw [h]; rfl, by rw [h, tableKeys_vacant]; exact List.nodup_nil, fun e he => ?_⟩
  rw [h] at he
  simp at he

theorem tableKeys_append (t u : List (Option Entry)) : tableKeys (t ++ u) = tableKeys t ++ tableKeys u := by
  induction t with
  | nil => rfl
  | cons x t ih => cases x <;> simp [tableKeys, ih]

/-- Allocation keeps the law. -/
theorem State.TableLaw.allocate {s : State} {k : Byte} {u : List (Option Entry)} (h : s.TableLaw)
    (habsent : s.entry k = none) (hk : validKey k = true) (hu : allocate (newEntry k) s.table = some u) :
    ({ s with table := u } : State).TableLaw := by
  obtain ⟨pre, post, hs, rfl, -⟩ := allocate_some hu
  obtain ⟨hlength, hnodup, hentries⟩ := h
  have hnot : k ∉ tableKeys s.table := fun hmem => by
    have := (findEntry_isSome k s.table).mpr hmem
    rw [← State.entry, habsent] at this
    simp at this
  rw [hs, tableKeys_append] at hnodup hnot
  refine ⟨?_, ?_, fun e he => ?_⟩
  · rw [hs] at hlength
    simpa using hlength
  · rw [tableKeys_append]
    simp only [tableKeys, newEntry] at hnodup hnot ⊢
    exact List.perm_middle.nodup_iff.mpr (List.nodup_cons.mpr ⟨hnot, hnodup⟩)
  · rcases List.mem_append.mp he with he | he
    · exact hentries e (by rw [hs]; exact List.mem_append_left _ he)
    · rcases List.mem_cons.mp he with he | he
      · cases he
        exact ⟨hk, nofun, nofun⟩
      · exact hentries e (by rw [hs]; exact List.mem_append_right _ (List.mem_cons_of_mem _ he))

theorem tableKeys_vacate (k : Byte) (t : List (Option Entry)) :
    tableKeys (vacateEntry k t) = (tableKeys t).filter fun j => j != k := by
  induction t with
  | nil => rfl
  | cons x t ih =>
    have hcons : vacateEntry k (x :: t) = (x.filter fun e => e.key != k) :: vacateEntry k t := rfl
    cases x with
    | none => simpa [hcons, tableKeys] using ih
    | some e => by_cases hk : e.key = k <;> simp [hcons, Option.filter, tableKeys, hk, ih]

theorem mem_vacate {k : Byte} {t : List (Option Entry)} {e : Entry} (h : some e ∈ vacateEntry k t) : some e ∈ t := by
  obtain ⟨place, hplace, hfilter⟩ := List.mem_map.mp h
  obtain ⟨rfl, -⟩ := Option.filter_eq_some_iff.mp hfilter
  exact hplace

theorem State.TableLaw.vacate {s : State} (k : Byte) (h : s.TableLaw) :
    ({ s with table := vacateEntry k s.table } : State).TableLaw := by
  obtain ⟨hlength, hnodup, hentries⟩ := h
  exact ⟨by rw [length_vacate]; exact hlength, by rw [tableKeys_vacate]; exact hnodup.filter _,
    fun e he => hentries e (mem_vacate he)⟩

theorem Claim.after_peers (dt : Time) (own : Addr) {e : Entry} (h : EntryLaw own e) :
    EntryLaw own { e with claim := e.claim.after dt } := by
  obtain ⟨hvalid, htheirs, hpeer⟩ := h
  rcases e with ⟨k, v, g, _ | ⟨a, d⟩ | (_ | t) | _ | q⟩
  · exact ⟨hvalid, nofun, nofun⟩
  · exact ⟨hvalid, nofun, fun a' d' h => by cases h; exact hpeer a d rfl⟩
  · exact ⟨hvalid, nofun, nofun⟩
  · exact ⟨hvalid, nofun, nofun⟩
  · exact ⟨hvalid, nofun, nofun⟩
  · exact ⟨hvalid, htheirs, nofun⟩

/-- The passage of time changes each entry's timer, or none. -/
theorem tableAfter_eq_map (s : State) (dt : Time) :
    s.tableAfter dt = s.table.map fun place => place.map fun e =>
      if s.monitor.timersRun then { e with claim := e.claim.after dt } else e := by
  rw [State.tableAfter]
  split
  · rfl
  · refine ((List.map_congr_left fun place _ => ?_).trans (List.map_id _)).symm
    cases place <;> rfl

/-- Every change keeps the law of the table. -/
theorem Change.keeps_tableLaw {s t : State} (hc : Change w s t) (h : s.TableLaw) : t.TableLaw := by
  cases hc with
  | quiet hview _ => exact h.congr (congrArg View.table hview) (congrArg View.ownAddr hview)
  | clocks =>
    refine h.map (fun e => ?_) (tableAfter_eq_map s _) rfl fun e _ hlaw => ?_
    · split <;> rfl
    · split
      · exact Claim.after_peers _ _ hlaw
      · exact hlaw
  | entryMoves k f hf hmoves =>
    exact h.modify hf rfl rfl fun e he hk hlaw => (hmoves e he hk (hk ▸ entry_of_mem h.2.1 he)).law hlaw
  | askStarts k e normal _ _ _ _ =>
    exact h.modify (k := k) (f := fun e => { e with claim := .asking none }) (fun _ => rfl) rfl rfl
      fun e _ _ hlaw => hlaw.nobody rfl rfl
  | askSent k a x _ _ _ =>
    exact h.modify (k := k) (f := fun e => { e with claim := .asking (some x) }) (fun _ => rfl) rfl rfl
      fun e _ _ hlaw => hlaw.nobody rfl rfl
  | released k _ =>
    have hfree : (setClaim k .free s).TableLaw :=
      h.modify (k := k) (f := fun e => { e with claim := .free }) (fun _ => rfl) rfl rfl
        fun e _ _ hlaw => hlaw.nobody rfl rfl
    have hnone : (setWant k .none (setClaim k .free s)).TableLaw :=
      hfree.modify (k := k) (f := fun e => { e with want := .none }) (fun _ => rfl) rfl rfl fun e _ _ hlaw => hlaw
    exact hnone.congr (requestState_table _ _) (requestState_ownAddr _ _)
  | allocates k u habsent hk hu => exact h.allocate habsent hk hu
  | vacates k e _ _ => exact h.vacate k
  | mutes table _ htable =>
    refine h.map (g := mutedEntry) (fun _ => rfl) (htable h) rfl fun e _ hlaw => ?_
    obtain ⟨hvalid, htheirs, hpeer⟩ := hlaw
    refine ⟨hvalid, fun q hq => htheirs q ?_, fun a d ha => hpeer a d ?_⟩
    · revert hq; simp only [mutedEntry]; cases e.claim <;> simp
    · revert ha; simp only [mutedEntry]; cases e.claim <;> simp
  | goesOffline _ => exact .of_vacant rfl
  | cleared hview => exact .of_vacant (congrArg View.table hview)
  | notice n _ => exact h.congr (produce_table n s) (produce_ownAddr n s)
  | stateOrder o _ _ _ => exact h.congr (requestState_table o s) (requestState_ownAddr o s)
  | objectOrder k _ => exact h.congr (requestObject_table k s) (requestObject_ownAddr k s)
  | presenceOrder => exact h.congr (requestPresence_table s) (requestPresence_ownAddr s)
  | postOrder p _ => rw [requestPost_eq]; exact h
  | begins _ _ => rw [beginAttempt_eq]; exact h
  | handsBack a _ => rw [handBack_eq]; exact h
  | worldMoves | noticeFetched | mailJoins | mailFetched | peerHears | peerGoes | listened | holdRemoved | askRemoved
  | waits | drives | slotDone | faulted | established | leaves => exact h

/-- Settles O54: every change keeps the law, and a start leaves no entry. -/
theorem stepKeepsTableLaw : Obligations.StepKeepsTableLaw := by
  intro s t hs h
  exact step_keeps (P := State.TableLaw)
    (fun s t hview _ ht => ht.congr (congrArg View.table hview) (congrArg View.ownAddr hview))
    (fun _ _ hc => hc.keeps_tableLaw) (fun _ _ _ => .of_vacant rfl) hs h

/-! ### The laws of the Notice Queue and of the Mailbox -/

/-- A fetch takes the head of the queue, or lowers the count of a LOST_NOTICES record. -/
theorem removeNotice_noticesLaw (r : List Byte) {q : List Notice} (h : NoticesLaw q) :
    NoticesLaw (removeNotice r q) := by
  have htail (n : Notice) (rest : List Notice) (h : NoticesLaw (n :: rest)) : NoticesLaw rest := by
    rcases h with ⟨hle, hany⟩ | ⟨run, c, hq, hle, hany, hc⟩
    · simp only [List.length_cons, List.any_cons, Bool.or_eq_false_iff] at hle hany
      exact .inl ⟨by omega, hany.2⟩
    · cases run with
      | nil =>
        simp only [List.nil_append, List.cons.injEq] at hq
        rw [hq.2]
        exact .inl ⟨by simp, rfl⟩
      | cons x run =>
        simp only [List.cons_append, List.cons.injEq, List.length_cons, List.any_cons, Bool.or_eq_false_iff] at hq hle hany
        exact .inr ⟨run, c, hq.2, by omega, hany.2, hc⟩
  unfold removeNotice
  split
  · next n rest =>
    split
    · exact htail _ _ h
    · rcases h with ⟨-, hany⟩ | ⟨run, c, hq, hle, hany, hc⟩
      · simp [Notice.isLost] at hany
      · cases run with
        | nil =>
          simp only [List.nil_append, List.cons.injEq, Notice.lostNotices.injEq] at hq
          rw [hq.2]
          exact .inr ⟨[], _, rfl, by simp, rfl, by omega⟩
        | cons x run =>
          simp only [List.cons_append, List.cons.injEq] at hq
          rw [← hq.1] at hany
          simp [Notice.isLost] at hany
  · exact htail _ _ h
  · exact h

/-- Every change keeps the law of the Notice Queue. -/
theorem Change.keeps_noticesLaw {s t : State} (hc : Change w s t) (h : NoticesLaw s.notices) :
    NoticesLaw t.notices := by
  cases hc with
  | quiet hview _ => rw [show t.notices = s.notices from congrArg View.notices hview]; exact h
  | cleared hview =>
    rw [show t.notices = [] from congrArg View.notices hview]
    exact .inl ⟨by simp, rfl⟩
  | notice n hn => exact produce_noticesLaw hn h
  | noticeFetched r => exact removeNotice_noticesLaw r h
  | released k _ =>
    rw [show (releaseMine k s).notices = s.notices from requestState_notices _ _]; exact h
  | stateOrder o _ _ _ => rw [requestState_notices]; exact h
  | objectOrder k _ => rw [requestObject_notices]; exact h
  | presenceOrder => rw [requestPresence_notices]; exact h
  | postOrder p _ => rw [requestPost_eq]; exact h
  | begins _ _ => rw [beginAttempt_eq]; exact h
  | handsBack a _ => rw [handBack_eq]; exact h
  | worldMoves | mailJoins | mailFetched | peerHears | peerGoes | listened | holdRemoved | askRemoved | clocks
  | entryMoves | askStarts | askSent | allocates | vacates | mutes | goesOffline
  | waits | drives | slotDone | faulted | established | leaves => exact h

theorem State.MailboxLaw.congr {s t : State} (h : s.MailboxLaw) (hmail : t.mailbox = s.mailbox)
    (hown : t.ownAddr = s.ownAddr) : t.MailboxLaw := by
  rw [State.MailboxLaw, hmail, hown]; exact h

theorem State.MailboxLaw.of_empty {t : State} (h : t.mailbox = []) : t.MailboxLaw := by
  rw [State.MailboxLaw, h]; exact ⟨by simp, nofun⟩

/-- Every change keeps the law of the Mailbox. -/
theorem Change.keeps_mailboxLaw {s t : State} (hc : Change w s t) (h : s.MailboxLaw) : t.MailboxLaw := by
  cases hc with
  | quiet hview _ => exact h.congr (congrArg View.mailbox hview) (congrArg View.ownAddr hview)
  | cleared hview => exact .of_empty (congrArg View.mailbox hview)
  | mailJoins m hsource hsome hfits hroom =>
    obtain ⟨hlength, hposts⟩ := h
    refine ⟨by rw [List.length_append, List.length_singleton]; omega, fun x hx => ?_⟩
    rcases List.mem_append.mp hx with hx | hx
    · exact hposts x hx
    · rw [List.mem_singleton.mp hx]
      exact ⟨hsource.1, hsource.2, hsome, hfits⟩
  | mailFetched =>
    obtain ⟨hlength, hposts⟩ := h
    exact ⟨by simp only [List.length_drop]; omega, fun x hx => hposts x (List.mem_of_mem_drop hx)⟩
  | released k _ => exact h.congr (requestState_mailbox _ _) (requestState_ownAddr _ _)
  | notice n _ => exact h.congr (produce_mailbox n s) (produce_ownAddr n s)
  | stateOrder o _ _ _ => exact h.congr (requestState_mailbox o s) (requestState_ownAddr o s)
  | objectOrder k _ => exact h.congr (requestObject_mailbox k s) (requestObject_ownAddr k s)
  | presenceOrder => exact h.congr (requestPresence_mailbox s) (requestPresence_ownAddr s)
  | postOrder p _ => rw [requestPost_eq]; exact h
  | begins _ _ => rw [beginAttempt_eq]; exact h
  | handsBack a _ => rw [handBack_eq]; exact h
  | worldMoves | noticeFetched | peerHears | peerGoes | listened | holdRemoved | askRemoved | clocks
  | entryMoves | askStarts | askSent | allocates | vacates | mutes | goesOffline
  | waits | drives | slotDone | faulted | established | leaves => exact h

/-- A queue that keeps the law holds a LOST_NOTICES record last, if at all. -/
theorem noticesLaw_lost_last {q pre post : List Notice} {n : Notice} (h : NoticesLaw q) (hq : q = pre ++ n :: post)
    (hn : n.isLost = true) : post = [] := by
  rcases h with ⟨-, hany⟩ | ⟨run, c, hq', -, hany, -⟩
  · rw [hq] at hany; simp [hn] at hany
  · by_contra hpost
    obtain ⟨rest, last, rfl⟩ := List.eq_nil_or_concat post |>.resolve_left hpost
    rw [hq, List.concat_eq_append, ← List.cons_append, ← List.append_assoc] at hq'
    have hrun := (List.append_inj' hq' rfl).1
    rw [← hrun] at hany
    simp [hn] at hany

/-- Settles O57: a produced notice is no LOST_NOTICES record, a post that joins comes from a foreign station, and a
queue that keeps the law is bounded by its form. -/
theorem stepKeepsNoticesAndMailboxLaws : Obligations.StepKeepsNoticesAndMailboxLaws := by
  refine ⟨fun s t hs h => ?_, fun s t hs h => ?_, fun q hq => ⟨?_, fun pre n post => noticesLaw_lost_last hq, ?_⟩⟩
  · exact step_keeps (P := fun s => NoticesLaw s.notices)
      (fun s t hview _ ht => by rw [show s.notices = t.notices from congrArg View.notices hview]; exact ht)
      (fun _ _ hc => hc.keeps_noticesLaw) (fun _ _ _ => .inl ⟨by simp [releaseReset, State.initial], rfl⟩) hs h
  · exact step_keeps (P := State.MailboxLaw)
      (fun s t hview _ ht => ht.congr (congrArg View.mailbox hview) (congrArg View.ownAddr hview))
      (fun _ _ hc => hc.keeps_mailboxLaw) (fun _ _ _ => .of_empty rfl) hs h
  · rcases hq with ⟨hle, -⟩ | ⟨run, c, rfl, hle, -, -⟩
    · omega
    · rw [List.length_append, List.length_singleton]; omega
  · intro hfull
    rcases hq with ⟨hle, -⟩ | ⟨run, c, rfl, -, -, -⟩
    · omega
    · exact ⟨_, List.mem_append_right _ List.mem_cons_self, rfl⟩

/-! ### The access condition -/

/-- Following the lanes makes the condition follow them. -/
theorem accessFollows_refreshAccess (s : State) : (refreshAccess s).AccessFollows := by
  rw [refreshAccess]
  split
  · next ha =>
    split
    · next hn => exact ⟨fun _ => hn, by simp [ha]⟩
    · next hn =>
      have hsome : s.noOrders = false := by simpa using hn
      exact ⟨fun he => by rcases readyCondition_cases s with hr | hr <;> simp [hr] at he, fun _ => hsome⟩
  · next ha =>
    split
    · next hn => exact ⟨fun _ => hn, by simp⟩
    · next hn => exact ⟨by simp [ha], fun _ => by simpa using hn⟩
  · next ha =>
    split
    · next hn => exact ⟨fun _ => hn, by simp⟩
    · next hn => exact ⟨by simp [ha], fun _ => by simpa using hn⟩
  · next hempty hslot hopen => exact ⟨fun h => absurd h hempty, fun h => by tauto⟩

theorem accessFollows_settled (f : State → State) (s : State) : (settled f s).AccessFollows :=
  accessFollows_refreshAccess _

/-- Events taken one after the other leave a condition that follows the lanes. -/
theorem accessFollows_fireEvents {es : List TickEvent} {s : State} (h : s.AccessFollows) :
    (fireEvents es s).AccessFollows := by
  induction es generalizing s with
  | nil => exact h
  | cons e es ih => exact ih (accessFollows_settled _ _)

theorem accessFollows_live {f : State → State} {s t : State} (hs : s.AccessFollows) (h : live f s = .next t) :
    t.AccessFollows := by
  rw [live] at h
  cases h
  split
  · exact hs
  · exact accessFollows_settled f s

theorem accessFollows_exec {c : Instr} {s t : State} (hs : s.AccessFollows) (h : exec c s = .next t) :
    t.AccessFollows := by
  cases c with
  | hardReset edge => cases edge <;> cases h <;> exact ⟨nofun, by simp [holdInReset, releaseReset, State.initial]⟩
  | _ => exact accessFollows_live hs h

theorem accessFollows_useFree (n : Nat) {s : State} (h : s.AccessFollows) : (useFree n s).AccessFollows := by
  rw [useFree]; split <;> exact h

/-- Settles O60: a row ends with the condition following the lanes, a tick with that of its last event. -/
theorem stepKeepsAccessFollows : Obligations.StepKeepsAccessFollows := by
  intro s t hs h
  rw [step] at h
  split at h
  · next c rest _ => exact accessFollows_exec (s := { s with pending := rest }) hs h
  · cases h
    simp only [tick]
    split
    · exact hs
    · exact accessFollows_fireEvents (accessFollows_useFree _ (accessFollows_settled beginOnOpenLine s))

end Sys2Proof.Machine

namespace Sys2Proof.Machine
variable {w : Bool}

/-! ### The law of the station's life -/

theorem timersRun_iff (m : Monitor) : m.timersRun = true ↔ m.isSettling = false ∧ m.isStuck = false := by
  cases m <;> simp [Monitor.timersRun, Monitor.isSettling, Monitor.isStuck]

theorem isDriving_waits {s : State} (h : s.access.waits = true) : s.isDriving = false := by
  cases ha : s.access <;> simp_all [State.isDriving, Access.waits, Access.attempt]

theorem off_of_waits {a : Access} (h : a.waits = true) : a ≠ .off := by
  rintro rfl; cases h

/-- What the law of the station's life says of a configuration. -/
def ConfigLaw (rate : BitVec 2) (c : Configuration) : Prop :=
  1 ≤ c.silenceUnit.toNat ∧ minimumWindow rate ≤ c.window.toNat ∧
    8 * c.window.toNat ≤ 16 * c.silenceUnit.toNat ∧ 1 ≤ c.retryLimit.toNat ∧ c.retryLimit.toNat ≤ 15 ∧
    c.mask.toNat < 64

/-- The law by its parts: the condition, the line under a drive, the station state, and the drive-fault count. -/
theorem stationLaw_iff (s : State) :
    s.StationLaw ↔
      (s.access = .off ↔ s.station.transmits = false) ∧
      (s.isDriving = true → s.monitor.timersRun = true) ∧
      (s.config = none ↔ s.station = .unconfigured) ∧
      (s.leaveLimit.isSome = true ↔ s.station = .leaving) ∧
      (∀ c, s.config = some c → ConfigLaw s.rate c) ∧
      (∀ c, s.config = some c → s.station.transmits = true → s.driveFaults < c.retryLimit.toNat) := by
  have hlimit : (s.leaveLimit = none ↔ s.station ≠ .leaving) ↔ (s.leaveLimit.isSome = true ↔ s.station = .leaving) := by
    cases s.leaveLimit <;> simp
  simp only [State.StationLaw, timersRun_iff, hlimit, ConfigLaw]
  constructor
  · rintro ⟨h1, h2, h3, h4, h5⟩
    exact ⟨h1, h2, h3, h4, fun c hc => ⟨(h5 c hc).1, (h5 c hc).2.1, (h5 c hc).2.2.1, (h5 c hc).2.2.2.1,
      (h5 c hc).2.2.2.2.1, (h5 c hc).2.2.2.2.2.1⟩, fun c hc => (h5 c hc).2.2.2.2.2.2⟩
  · rintro ⟨h1, h2, h3, h4, h5, h6⟩
    refine ⟨h1, h2, h3, h4, fun c hc => ?_⟩
    obtain ⟨hs, hw, hb, hr, hr', hm⟩ := h5 c hc
    exact ⟨hs, hw, hb, hr, hr', hm, h6 c hc⟩

/-- The law of the station's life reads the condition, the station and the count; of the line it reads whether it is
lost while the station drives. -/
theorem State.StationLaw.congr {s t : State} (h : s.StationLaw) (haccess : t.access = s.access)
    (hstation : t.station = s.station) (hconfig : t.config = s.config)
    (hlimit : t.leaveLimit.isSome = s.leaveLimit.isSome) (hrate : t.rate = s.rate)
    (hfaults : t.driveFaults = s.driveFaults)
    (hline : s.isDriving = true → s.monitor.timersRun = true → t.monitor.timersRun = true) : t.StationLaw := by
  have hdriving : t.isDriving = s.isDriving := by rw [State.isDriving, haccess]; rfl
  rw [stationLaw_iff] at h ⊢
  obtain ⟨hoff, hdrive, hrest⟩ := h
  rw [haccess, hstation, hconfig, hlimit, hrate, hfaults, hdriving]
  exact ⟨hoff, fun hd => hline hd (hdrive hd), hrest⟩

/-- A station that is on transmits. -/
theorem State.StationLaw.transmits {s : State} (h : s.StationLaw) (hon : s.access ≠ .off) :
    s.station.transmits = true := by
  obtain ⟨hoff, -⟩ := h
  by_contra hno
  exact hon (hoff.mpr (by simpa using hno))

/-- The law where the condition moves between two that are on. -/
theorem State.StationLaw.moves {s : State} {a : Access} (h : s.StationLaw) (hon : s.access ≠ .off) (ha : a ≠ .off)
    (hline : ({ s with access := a } : State).isDriving = true → s.monitor.timersRun = true) {n : Nat}
    (hn : n ≤ s.driveFaults) : ({ s with access := a, driveFaults := n } : State).StationLaw := by
  have htransmits := h.transmits hon
  rw [stationLaw_iff] at h ⊢
  obtain ⟨-, -, hconfig, hlimit, hrange, hfaults⟩ := h
  exact ⟨⟨fun h => absurd h ha, fun h => by simp only [htransmits] at h; cases h⟩, hline, hconfig, hlimit, hrange,
    fun c hc ht => Nat.lt_of_le_of_lt hn (hfaults c hc ht)⟩

/-- Every block in its initial state keeps the law. -/
theorem stationLaw_of_clear {t : State} (ha : t.access = .off) (hst : t.station = .unconfigured)
    (hc : t.config = none) (hl : t.leaveLimit.isSome = false) : t.StationLaw := by
  rw [stationLaw_iff]
  simp [ha, hst, hc, hl, State.isDriving, Access.attempt, StationState.transmits]

theorem beginAttempt_on (s : State) : (beginAttempt s).access ≠ .off := by
  simp only [beginAttempt]
  (repeat' split) <;> simp

/-- The limits of an accepted ESTABLISH are those of the law (R148). -/
theorem configLaw_of_range {rate : BitVec 2} {c : Configuration} {bcast : Byte}
    (h : configInRange rate c.silenceUnit c.window c.retryLimit c.mask bcast = true) : ConfigLaw rate c := by
  simp only [configInRange, Bool.and_eq_true, decide_eq_true_eq] at h
  obtain ⟨⟨⟨⟨⟨⟨⟨hs, -⟩, hw⟩, hb⟩, hr⟩, hr'⟩, hm⟩, -⟩ := h
  exact ⟨hs, hw, hb, hr, hr', hm⟩

theorem retryLimit_of_config {s : State} {c : Configuration} (h : s.config = some c) :
    s.retryLimit = c.retryLimit.toNat := by
  simp only [State.retryLimit, h]

/-- A station that stops transmitting keeps the law where its configuration stands and its limit is gone. -/
theorem stationLaw_of_silent {s t : State} (h : s.StationLaw) (hon : s.station ≠ .unconfigured)
    (ha : t.access = .off) (hst : t.station.transmits = false) (hconfigured : t.station ≠ .unconfigured)
    (hl : t.leaveLimit = none) (hc : t.config = s.config) (hr : t.rate = s.rate) : t.StationLaw := by
  rw [stationLaw_iff] at h ⊢
  obtain ⟨-, -, hconfig, -, hrange, -⟩ := h
  have hleaving : t.station ≠ .leaving := by
    intro h; rw [h] at hst; cases hst
  simp only [hc, ha, hl, hst, hr, State.isDriving, Access.attempt]
  exact ⟨by simp, nofun, by simp [hconfig, hon, hconfigured], by simp [hleaving], hrange, nofun⟩

/-- Every change keeps the law of the station's life. -/
theorem Change.keeps_stationLaw {s t : State} (hc : Change w s t) (h : s.StationLaw) : t.StationLaw := by
  have hframe : ∀ {u : State}, u.access = s.access → u.station = s.station → u.config = s.config →
      u.leaveLimit = s.leaveLimit → u.rate = s.rate → u.driveFaults = s.driveFaults → u.monitor = s.monitor →
      u.StationLaw := fun h1 h2 h3 h4 h5 h6 h7 => h.congr h1 h2 h3 (by rw [h4]) h5 h6 fun _ h => h7 ▸ h
  have hunconfigured : s.station.transmits = true → s.station ≠ .unconfigured := fun ht hst => by
    rw [hst] at ht; cases ht
  cases hc with
  | quiet hview hline =>
    exact h.congr (congrArg View.access hview) (congrArg View.station hview) (congrArg View.config hview)
      (congrArg View.leaving hview) (congrArg View.rate hview) (congrArg View.driveFaults hview) hline
  | cleared hview =>
    exact stationLaw_of_clear (congrArg View.access hview) (congrArg View.station hview)
      (congrArg View.config hview) (congrArg View.leaving hview)
  | clocks => exact h.congr rfl rfl rfl (by simp [advanceClocks]) rfl rfl fun _ h => h
  | askSent k a x ha _ _ =>
    refine (h.moves (a := .slotWait) (n := 0) (by rw [ha]; nofun) nofun nofun (Nat.zero_le _)).congr rfl rfl rfl rfl rfl
      rfl fun _ h => h
  | waits a hs ha =>
    exact h.moves (off_of_waits hs) (off_of_waits ha)
      (fun hd => by rw [isDriving_waits (s := { s with access := a }) ha] at hd; cases hd) (Nat.le_refl _)
  | drives a b ha _ =>
    obtain ⟨-, hdrive, -⟩ := (stationLaw_iff s).mp h
    exact h.moves (a := .driving b) (by rw [ha]; nofun) nofun (fun _ => hdrive (by simp [State.isDriving, ha, Access.attempt]))
      (Nat.le_refl _)
  | begins hwaits hline =>
    rw [beginAttempt_eq]
    exact (h.moves (off_of_waits hwaits) (beginAttempt_on s) (fun _ => hline) (Nat.le_refl _)).congr rfl rfl rfl rfl rfl
      rfl fun _ h => h
  | handsBack a ha =>
    rw [handBack_eq]
    exact (h.moves (a := .slotWait) (by rw [ha]; nofun) nofun nofun (Nat.le_refl _)).congr rfl rfl rfl rfl rfl rfl
      fun _ h => h
  | slotDone a ha => exact h.moves (a := .slotWait) (by rw [ha]; nofun) nofun nofun (Nat.zero_le _)
  | faulted hlimit =>
    rw [stationLaw_iff] at h ⊢
    obtain ⟨hoff, hdrive, hconfig, hleave, hrange, -⟩ := h
    exact ⟨hoff, hdrive, hconfig, hleave, hrange, fun c hc _ => retryLimit_of_config hc ▸ hlimit⟩
  | established c bcast hst hrange =>
    have hlaw := configLaw_of_range hrange
    rw [stationLaw_iff] at h ⊢
    obtain ⟨-, -, -, hleave, -, -⟩ := h
    refine ⟨by simp [StationState.transmits], nofun, by simp, ?_, fun d hd => ?_, fun d hd _ => ?_⟩
    · rw [hst] at hleave
      simpa using hleave
    · cases hd; exact hlaw
    · cases hd; exact hlaw.2.2.2.1
  | listened ks hst _ _ =>
    rw [stationLaw_iff] at h ⊢
    obtain ⟨hoff, hdrive, hconfig, hlimit, hrange, hfaults⟩ := h
    simp only [hst, StationState.transmits] at hoff hconfig hlimit hfaults
    exact ⟨hoff, hdrive, by simpa using hconfig, by simpa using hlimit, hrange, fun c hc _ => hfaults c hc trivial⟩
  | leaves limit hst _ =>
    have htransmits : s.station.transmits = true := by
      cases hs : s.station <;> simp_all [StationState.takesAsk, StationState.transmits]
    rw [stationLaw_iff] at h ⊢
    obtain ⟨hoff, hdrive, hconfig, -, hrange, hfaults⟩ := h
    refine ⟨⟨fun ha => ?_, nofun⟩, hdrive, ?_, by simp, hrange, fun c hc _ => hfaults c hc htransmits⟩
    · rw [hoff.mp ha] at htransmits; cases htransmits
    · rw [hconfig]; simp [hunconfigured htransmits]
  | mutes table hon _ =>
    exact stationLaw_of_silent h (hunconfigured (hon.elim h.transmits id)) rfl rfl nofun rfl rfl rfl
  | goesOffline hon =>
    refine stationLaw_of_silent h ?_ rfl rfl nofun rfl rfl rfl
    rcases hon with hon | hlimit
    · exact hunconfigured (h.transmits hon)
    · rw [((stationLaw_iff s).mp h).2.2.2.1.mp hlimit]
      nofun
  | released k _ =>
    exact hframe (requestState_access _ _) (requestState_station _ _) (requestState_config _ _)
      (requestState_leaveLimit _ _) (requestState_rate _ _) (requestState_driveFaults _ _) (requestState_monitor _ _)
  | notice n _ => exact hframe (by simp) (by simp) (by simp) (by simp) (by simp) (by simp) (by simp)
  | stateOrder o _ _ _ => exact hframe (by simp) (by simp) (by simp) (by simp) (by simp) (by simp) (by simp)
  | objectOrder k _ => exact hframe (by simp) (by simp) (by simp) (by simp) (by simp) (by simp) (by simp)
  | presenceOrder => exact hframe (by simp) (by simp) (by simp) (by simp) (by simp) (by simp) (by simp)
  | postOrder p _ => rw [requestPost_eq]; exact h
  | worldMoves | noticeFetched | mailJoins | mailFetched | peerHears | peerGoes | holdRemoved | askRemoved
  | entryMoves | askStarts | allocates | vacates => exact h

/-- A level that is not driven is recessive. -/
theorem ownLevel_of_not_driving {s : State} (h : s.isDriving = false) : s.ownLevel = .recessive := by
  cases ha : s.access <;> simp_all [State.ownLevel, State.isDriving, Access.attempt]

/-- Settles O58: every change keeps the law, a start is UNCONFIGURED, and by the law a station that does not transmit,
or whose line is SETTLING or STUCK, does not drive. -/
theorem stepKeepsStationLaw : Obligations.StepKeepsStationLaw := by
  refine ⟨fun s t hs h => ?_, fun s hs hsilent => ownLevel_of_not_driving ?_⟩
  · exact step_keeps (P := State.StationLaw)
      (fun s t hview hmonitor ht => ht.congr (congrArg View.access hview) (congrArg View.station hview)
        (congrArg View.config hview) (congrArg View.leaving hview) (congrArg View.rate hview)
        (congrArg View.driveFaults hview) fun _ h => hmonitor ▸ h)
      (fun _ _ hc => hc.keeps_stationLaw) (fun _ _ _ => stationLaw_of_clear rfl rfl rfl rfl) hs h
  · obtain ⟨hoff, hdrive, -⟩ := hs
    rcases hsilent with hst | hline | hline
    · rw [State.isDriving, hoff.mpr hst]; rfl
    · by_contra hd
      rw [(hdrive (by simpa using hd)).1] at hline; cases hline
    · by_contra hd
      rw [(hdrive (by simpa using hd)).2] at hline; cases hline

/-! ### The law of the Roster -/

theorem State.RosterLaw.congr {s t : State} (h : s.RosterLaw) (hroster : t.roster = s.roster)
    (hown : t.ownAddr = s.ownAddr) (hconfig : t.config = s.config) : t.RosterLaw := by
  simp only [State.RosterLaw, State.peer, State.silenceTimeout, hroster, hown, hconfig] at h ⊢
  exact h

/-- A Roster with no entry. -/
theorem State.RosterLaw.of_vacant {t : State} (h : t.roster = List.replicate 32 none) : t.RosterLaw := by
  have hnone : ∀ p, t.peer p = none := fun p => by
    rw [State.peer, h, List.getElem?_replicate]
    split <;> rfl
  exact ⟨by rw [h]; rfl, hnone 0, hnone _, fun p e he => by rw [hnone p] at he; cases he⟩

/-- The Roster with every entry changed or dropped. -/
theorem State.RosterLaw.filterMap {s t : State} {g : Peer → Option Peer} (h : s.RosterLaw)
    (hroster : t.roster = s.roster.map fun place => place.bind g) (hown : t.ownAddr = s.ownAddr)
    (hentry : ∀ e d, g e = some d → 1 ≤ e.frames → e.frames ≤ 255 →
      1 ≤ d.frames ∧ d.frames ≤ 255 ∧ d.age ≤ t.silenceTimeout) : t.RosterLaw := by
  obtain ⟨hlength, hzero, hself, hentries⟩ := h
  have hpeer : ∀ p, t.peer p = (s.peer p).bind g := fun p => by
    rw [State.peer, State.peer, hroster, List.getElem?_map]
    cases s.roster[p.toNat]? <;> rfl
  refine ⟨by rw [hroster, List.length_map]; exact hlength, by rw [hpeer, hzero]; rfl,
    by rw [hpeer, hown, hself]; rfl, fun p d hd => ?_⟩
  rw [hpeer] at hd
  obtain ⟨e, he, hg⟩ := Option.bind_eq_some_iff.mp hd
  exact hentry e d hg (hentries p e he).1 (hentries p e he).2.1

/-- The entry of any address after one has been set. -/
theorem peer_setPeer {s : State} (hlength : s.roster.length = 32) (p q : Addr) (e : Option Peer) :
    (setPeer p e s).peer q = if q = p then e else s.peer q := by
  have hp : p.toNat < s.roster.length := by rw [hlength]; exact p.isLt
  simp only [State.peer, setPeer, List.getElem?_set, hp, if_true]
  by_cases hq : q = p
  · simp [hq]
  · have : ¬ p.toNat = q.toNat := fun h => hq (BitVec.eq_of_toNat_eq h.symm)
    simp [hq, this]

/-- Every change keeps the law of the Roster. -/
theorem Change.keeps_rosterLaw {s t : State} (hc : Change w s t) (h : s.RosterLaw) : t.RosterLaw := by
  cases hc with
  | quiet hview _ =>
    exact h.congr (congrArg View.roster hview) (congrArg View.ownAddr hview) (congrArg View.config hview)
  | cleared hview => exact .of_vacant (congrArg View.roster hview)
  | goesOffline _ => exact .of_vacant rfl
  | peerHears p e hp hage hsome hmost =>
    obtain ⟨hlength, hzero, hself, hentries⟩ := h
    refine ⟨by rw [setPeer, List.length_set]; exact hlength, ?_, ?_, fun q d hd => ?_⟩
    · rw [peer_setPeer hlength, if_neg (Ne.symm hp.1)]; exact hzero
    · rw [peer_setPeer hlength, setPeer_ownAddr, if_neg (Ne.symm hp.2)]; exact hself
    · rw [peer_setPeer hlength] at hd
      split at hd
      · cases hd
        exact ⟨hsome, hmost, by rw [hage]; exact Nat.zero_le _⟩
      · exact hentries q d hd
  | peerGoes p =>
    obtain ⟨hlength, hzero, hself, hentries⟩ := h
    refine ⟨by rw [setPeer, List.length_set]; exact hlength, ?_, ?_, fun q d hd => ?_⟩
    · rw [peer_setPeer hlength, hzero]; exact ite_self _
    · rw [peer_setPeer hlength, setPeer_ownAddr, hself]; exact ite_self _
    · rw [peer_setPeer hlength] at hd
      split at hd
      · cases hd
      · exact hentries q d hd
  | clocks =>
    refine h.filterMap (t := advanceClocks s)
      (g := fun e => some (e.after (sampleTime s.rate) s.silenceTimeout)) ?_ rfl fun e d hd h1 h2 => ?_
    · exact List.map_congr_left fun place _ => by cases place <;> rfl
    · cases hd
      exact ⟨h1, h2, Nat.min_le_left _ _⟩
  | established c bcast hst _ =>
    refine h.filterMap (g := fun e => if e.age < ms (16 * c.silenceUnit.toNat) then some e else none) ?_ rfl
      fun e d hd h1 h2 => ?_
    · refine List.map_congr_left fun place _ => ?_
      cases place <;> simp [Option.filter]
    · obtain ⟨hage, hd⟩ := Option.ite_none_right_eq_some.mp hd
      cases hd
      exact ⟨h1, h2, Nat.le_of_lt hage⟩
  | released k _ => exact h.congr (requestState_roster _ _) (requestState_ownAddr _ _) (requestState_config _ _)
  | notice n _ => exact h.congr (produce_roster n s) (produce_ownAddr n s) (produce_config n s)
  | stateOrder o _ _ _ =>
    exact h.congr (requestState_roster o s) (requestState_ownAddr o s) (requestState_config o s)
  | objectOrder k _ => exact h.congr (requestObject_roster k s) (requestObject_ownAddr k s) (requestObject_config k s)
  | presenceOrder => exact h.congr (requestPresence_roster s) (requestPresence_ownAddr s) (requestPresence_config s)
  | postOrder p _ => rw [requestPost_eq]; exact h
  | begins _ _ => rw [beginAttempt_eq]; exact h
  | handsBack a _ => rw [handBack_eq]; exact h
  | worldMoves | noticeFetched | mailJoins | mailFetched | listened | holdRemoved | askRemoved
  | entryMoves | askStarts | askSent | allocates | vacates | mutes
  | waits | drives | slotDone | faulted | leaves => exact h

/-- Settles O59: every change keeps the law, and a start leaves no entry. -/
theorem stepKeepsRosterLaw : Obligations.StepKeepsRosterLaw := by
  intro s t _ hs h
  exact step_keeps (P := State.RosterLaw)
    (fun s t hview _ ht => ht.congr (congrArg View.roster hview) (congrArg View.ownAddr hview)
      (congrArg View.config hview))
    (fun _ _ hc => hc.keeps_rosterLaw) (fun _ _ _ => .of_vacant rfl) hs h

end Sys2Proof.Machine

namespace Sys2Proof.Machine
variable {w : Bool}

/-! ### Orders and entries -/

theorem any_isObjectOf (k : Byte) (l : List UrgentOrder) :
    l.any (UrgentOrder.isObjectOf k) = true ↔ .object k ∈ l := by
  simp [List.any_eq_true, UrgentOrder.isObjectOf_iff]

theorem any_isStateOf (k : Byte) (l : List UrgentOrder) :
    l.any (UrgentOrder.isStateOf k) = true ↔ .hold k ∈ l ∨ ∃ b, .free k b ∈ l := by
  simp only [List.any_eq_true, isStateOf_iff]
  constructor
  · rintro ⟨x, hx, rfl | ⟨b, rfl⟩⟩
    · exact .inl hx
    · exact .inr ⟨b, hx⟩
  · rintro (h | ⟨b, h⟩)
    · exact ⟨_, h, .inl rfl⟩
    · exact ⟨_, h, .inr ⟨b, rfl⟩⟩

theorem any_isAskOf (k : Byte) (l : List NormalOrder) : l.any (NormalOrder.isAskOf k) = true ↔ .ask k ∈ l := by
  simp [List.any_eq_true, NormalOrder.isAskOf_iff]

theorem NormalOrder.isPresence_iff (o : NormalOrder) : o.isPresence = true ↔ ∃ b, o = .presence b := by
  cases o <;> simp [NormalOrder.isPresence]

theorem any_isPresence (l : List NormalOrder) : l.any NormalOrder.isPresence = true ↔ ∃ b, .presence b ∈ l := by
  simp only [List.any_eq_true, NormalOrder.isPresence_iff]
  constructor
  · rintro ⟨_, hx, b, rfl⟩; exact ⟨b, hx⟩
  · rintro ⟨b, h⟩; exact ⟨_, h, b, rfl⟩

theorem isMine_iff (s : State) (k : Byte) : s.isMine k = true ↔ ∃ e, s.entry k = some e ∧ e.claim = .mine := by
  cases he : s.entry k with
  | none => simp [State.isMine, he]
  | some e => cases hc : e.claim <;> simp [State.isMine, he, hc]

theorem isAsking_iff (s : State) (k : Byte) :
    s.isAsking k = true ↔ ∃ e t, s.entry k = some e ∧ e.claim = .asking t := by
  cases he : s.entry k with
  | none => simp [State.isAsking, he]
  | some e => cases hc : e.claim <;> simp [State.isAsking, he, hc]

theorem claimOf_eq_some {s : State} {k : Byte} {c : Claim} :
    s.claimOf k = some c ↔ ∃ e, s.entry k = some e ∧ e.claim = c := by
  simp [State.claimOf]

/-! ### A frame handed back (R124) -/

theorem handBack_of_takesBack {s : State} {o : Order} (h : s.TakesBack o) : handBack o s = s.handedBack o true := by
  rcases o with (k | k | ⟨k, b⟩) | (k | b | p)
  · have : ¬ s.urgent.any (UrgentOrder.isObjectOf k) = true := fun hany => h ((any_isObjectOf k _).mp hany)
    simp only [handBack, handBackUrgent, this]
    rfl
  · obtain ⟨hhold, hfree, hmine⟩ := h
    have hnone : s.urgent.any (UrgentOrder.isStateOf k) = false := by
      rw [← Bool.not_eq_true, any_isStateOf]
      rintro (hh | ⟨b, hb⟩)
      · exact hhold hh
      · exact hfree b hb
    have hm : ({ s with access := .slotWait } : State).isMine k = true := (isMine_iff s k).mpr hmine
    simp only [handBack, handBackUrgent, hnone, hm]
    rfl
  · obtain ⟨hhold, hfree⟩ := h
    have hnone : s.urgent.any (UrgentOrder.isStateOf k) = false := by
      rw [← Bool.not_eq_true, any_isStateOf]
      rintro (hh | ⟨b, hb⟩)
      · exact hhold hh
      · exact hfree b hb
    simp only [handBack, handBackUrgent, hnone]
    rfl
  · obtain ⟨hask, hasking⟩ := h
    have hnone : s.normal.any (NormalOrder.isAskOf k) = false := by
      rw [← Bool.not_eq_true, any_isAskOf]; exact hask
    have ha : ({ s with access := .slotWait } : State).isAsking k = true := (isAsking_iff s k).mpr hasking
    simp only [handBack, handBackNormal, hnone, ha]
    rfl
  · have hnone : s.normal.any NormalOrder.isPresence = false := by
      rw [← Bool.not_eq_true, any_isPresence]
      exact fun ⟨l, hl⟩ => h l hl
    simp only [handBack, handBackNormal, hnone]
    rfl
  · rfl

theorem handBack_of_not_takesBack {s : State} {o : Order} (h : ¬ s.TakesBack o) :
    handBack o s = s.handedBack o false := by
  rcases o with (k | k | ⟨k, b⟩) | (k | b | p)
  · have : s.urgent.any (UrgentOrder.isObjectOf k) = true := (any_isObjectOf k _).mpr (not_not.mp h)
    simp only [handBack, handBackUrgent, this]
    rfl
  · have hor : s.urgent.any (UrgentOrder.isStateOf k) = true ∨ s.isMine k = false := by
      by_contra hno
      simp only [not_or, Bool.not_eq_true, Bool.not_eq_false] at hno
      refine h ⟨fun hh => ?_, fun b hb => ?_, (isMine_iff s k).mp hno.2⟩
      · rw [(any_isStateOf k _).mpr (.inl hh)] at hno; cases hno.1
      · rw [(any_isStateOf k _).mpr (.inr ⟨b, hb⟩)] at hno; cases hno.1
    have hsame : ({ s with access := .slotWait } : State).isMine k = s.isMine k := rfl
    rcases hor with hor | hor <;> simp [handBack, handBackUrgent, hor, hsame] <;> rfl
  · have hor : s.urgent.any (UrgentOrder.isStateOf k) = true := by
      by_contra hno
      refine h ⟨fun hh => hno ((any_isStateOf k _).mpr (.inl hh)), fun b hb => hno ((any_isStateOf k _).mpr (.inr ⟨b, hb⟩))⟩
    simp only [handBack, handBackUrgent, hor]
    rfl
  · have hor : s.normal.any (NormalOrder.isAskOf k) = true ∨ s.isAsking k = false := by
      by_contra hno
      simp only [not_or, Bool.not_eq_true, Bool.not_eq_false] at hno
      refine h ⟨fun hh => ?_, (isAsking_iff s k).mp hno.2⟩
      rw [(any_isAskOf k _).mpr hh] at hno; cases hno.1
    have hsame : ({ s with access := .slotWait } : State).isAsking k = s.isAsking k := rfl
    rcases hor with hor | hor <;> simp [handBack, handBackNormal, hor, hsame] <;> rfl
  · have hor : s.normal.any NormalOrder.isPresence = true := by
      by_contra hno
      exact h fun l hl => hno ((any_isPresence _).mpr ⟨l, hl⟩)
    simp only [handBack, handBackNormal, hor]
    rfl
  · exact absurd trivial h

/-- What handing a frame back can do: it is dropped, or it stands at the head of its lane. -/
theorem handBack_cases (o : Order) (s : State) :
    handBack o s = { s with access := .slotWait } ∨
    (∃ u, o = .urgent u ∧ s.TakesBack o ∧ handBack o s = { s with access := .slotWait, urgent := u :: s.urgent }) ∨
    (∃ n, o = .normal n ∧ s.TakesBack o ∧ handBack o s = { s with access := .slotWait, normal := n :: s.normal }) := by
  by_cases h : s.TakesBack o
  · cases o with
    | urgent u => exact .inr (.inl ⟨u, rfl, h, handBack_of_takesBack h⟩)
    | normal n => exact .inr (.inr ⟨n, rfl, h, handBack_of_takesBack h⟩)
  · refine .inl ((handBack_of_not_takesBack h).trans ?_)
    cases o <;> rfl

/-! ### The begin of an attempt (R130, R132) -/

/-- The orders before the one taken are discarded, and it is composed. -/
theorem takeUrgent_cases (s : State) (l : List UrgentOrder) :
    (∃ pre u post b, l = pre ++ u :: post ∧ (∀ x ∈ pre, composeUrgent s x = none) ∧ composeUrgent s u = some b ∧
      takeUrgent s l = (some (.urgent u, b), post)) ∨
    ((∀ x ∈ l, composeUrgent s x = none) ∧ takeUrgent s l = (none, [])) := by
  induction l with
  | nil => exact .inr ⟨nofun, rfl⟩
  | cons x l ih =>
    cases hx : composeUrgent s x with
    | some b => exact .inl ⟨[], x, l, b, rfl, nofun, hx, by simp only [takeUrgent, hx]⟩
    | none =>
      have htake : takeUrgent s (x :: l) = takeUrgent s l := by simp only [takeUrgent, hx]
      rcases ih with ⟨pre, u, post, b, rfl, hpre, hu, h⟩ | ⟨hnone, h⟩
      · exact .inl ⟨x :: pre, u, post, b, rfl, List.forall_mem_cons.mpr ⟨hx, hpre⟩, hu, htake.trans h⟩
      · exact .inr ⟨List.forall_mem_cons.mpr ⟨hx, hnone⟩, htake.trans h⟩

theorem takeNormal_cases (s : State) (l : List NormalOrder) :
    (∃ pre n post b, l = pre ++ n :: post ∧ (∀ x ∈ pre, composeNormal s x = none) ∧ composeNormal s n = some b ∧
      takeNormal s l = (some (.normal n, b), post)) ∨
    ((∀ x ∈ l, composeNormal s x = none) ∧ takeNormal s l = (none, [])) := by
  induction l with
  | nil => exact .inr ⟨nofun, rfl⟩
  | cons x l ih =>
    cases hx : composeNormal s x with
    | some b => exact .inl ⟨[], x, l, b, rfl, nofun, hx, by simp only [takeNormal, hx]⟩
    | none =>
      have htake : takeNormal s (x :: l) = takeNormal s l := by simp only [takeNormal, hx]
      rcases ih with ⟨pre, n, post, b, rfl, hpre, hn, h⟩ | ⟨hnone, h⟩
      · exact .inl ⟨x :: pre, n, post, b, rfl, List.forall_mem_cons.mpr ⟨hx, hpre⟩, hn, htake.trans h⟩
      · exact .inr ⟨List.forall_mem_cons.mpr ⟨hx, hnone⟩, htake.trans h⟩

/-- What the begin of an attempt can do: it takes the first urgent order that composes, or with none the first normal
one, or leaves the lanes empty. -/
theorem beginAttempt_cases (s : State) :
    (∃ pre u post b, s.urgent = pre ++ u :: post ∧ (∀ x ∈ pre, composeUrgent s x = none) ∧
      composeUrgent s u = some b ∧
      beginAttempt s = { s with urgent := post, access := .driving (s.newAttempt (.urgent u) b) }) ∨
    ((∀ x ∈ s.urgent, composeUrgent s x = none) ∧ ∃ pre n post b, s.normal = pre ++ n :: post ∧
      (∀ x ∈ pre, composeNormal s x = none) ∧ composeNormal s n = some b ∧
      beginAttempt s = { s with urgent := [], normal := post, access := .driving (s.newAttempt (.normal n) b) }) ∨
    ((∀ x ∈ s.urgent, composeUrgent s x = none) ∧ (∀ x ∈ s.normal, composeNormal s x = none) ∧
      beginAttempt s = { s with urgent := [], normal := [], access := .empty }) := by
  rcases takeUrgent_cases s s.urgent with ⟨pre, u, post, b, hs, hpre, hu, htake⟩ | ⟨hnone, htake⟩
  · exact .inl ⟨pre, u, post, b, hs, hpre, hu, by simp only [beginAttempt, htake]⟩
  · rcases takeNormal_cases s s.normal with ⟨pre, n, post, b, hs, hpre, hn, hnormal⟩ | ⟨hno, hnormal⟩
    · exact .inr (.inl ⟨hnone, pre, n, post, b, hs, hpre, hn, by simp only [beginAttempt, htake, hnormal]⟩)
    · exact .inr (.inr ⟨hnone, hno, by simp only [beginAttempt, htake, hnormal]⟩)

/-- An order that is discarded is an ASK. -/
theorem isAsk_of_composeNormal_none {s : State} {n : NormalOrder} (h : composeNormal s n = none) :
    ∃ k, n = .ask k := by
  cases n with
  | ask k => exact ⟨k, rfl⟩
  | presence b => cases h
  | post p => cases h

/-! ### The bond of entry states and station states -/

/-- What the bond says of one entry. -/
def EntryLife (st : StationState) (e : Entry) : Prop :=
  (e.claim = .mine → st = .active) ∧
    (∀ x, e.claim = .asking x → st = .listening ∨ st = .active) ∧
    (∀ t, e.claim = .asking (some t) → st = .active) ∧
    (e.want = .wait → st = .listening ∨ st = .active)

theorem anyAsk_eq_false_iff (s : State) :
    s.anyAsk = false ↔ (∀ k, .ask k ∉ s.normal) ∧ ∀ k, s.slotOrder ≠ some (.normal (.ask k)) := by
  have hlane : (s.normal.any fun o => match o with | .ask _ => true | _ => false) = false ↔ ∀ k, .ask k ∉ s.normal := by
    rw [List.any_eq_false]
    constructor
    · exact fun h k hk => h _ hk rfl
    · intro h o ho
      cases o with
      | ask k => exact absurd ho (h k)
      | presence b => simp
      | post p => simp
  rw [State.anyAsk, Bool.or_eq_false_iff]
  refine and_congr hlane ?_
  rcases s.slotOrder with _ | (u | (k | b | p)) <;> simp

/-- The law with every entry changed to one that keeps it, and the lanes as they are. -/
theorem State.LifeLaw.map {s t : State} {g : Entry → Entry} (h : s.LifeLaw)
    (htable : t.table = s.table.map fun place => place.map g) (hstation : t.station = s.station)
    (haccess : t.access = s.access) (hurgent : t.urgent = s.urgent) (hnormal : t.normal = s.normal)
    (hentry : ∀ e, some e ∈ s.table → EntryLife s.station e → EntryLife s.station (g e)) : t.LifeLaw := by
  obtain ⟨hoff, hlanes, hasks, hentries⟩ := h
  have hany : t.anyAsk = s.anyAsk := by simp only [State.anyAsk, State.slotOrder, hnormal, haccess]
  rw [State.LifeLaw, hstation, haccess, hurgent, hnormal, hany, htable]
  refine ⟨hoff, hlanes, hasks, fun e he => ?_⟩
  obtain ⟨place, hplace, hmap⟩ := List.mem_map.mp he
  obtain ⟨d, rfl, rfl⟩ := Option.map_eq_some_iff.mp hmap
  exact hentry d hplace (hentries d hplace)

theorem State.LifeLaw.modify {s t : State} {k : Byte} {f : Entry → Entry} (h : s.LifeLaw)
    (htable : t.table = modifyEntry k f s.table) (hstation : t.station = s.station)
    (haccess : t.access = s.access) (hurgent : t.urgent = s.urgent) (hnormal : t.normal = s.normal)
    (hentry : ∀ e, some e ∈ s.table → e.key = k → EntryLife s.station e → EntryLife s.station (f e)) : t.LifeLaw :=
  h.map (g := atKey k f) htable hstation haccess hurgent hnormal fun e he hlife => by
    rw [atKey]
    split
    · next hk => exact hentry e he hk hlife
    · exact hlife

/-- The law with the lanes and the condition changed. -/
theorem State.LifeLaw.lanes {s t : State} (h : s.LifeLaw) (htable : t.table = s.table)
    (hstation : t.station = s.station) (hoff : t.access = .off ↔ s.access = .off)
    (hlanes : s.station.transmits = false → t.urgent = [] ∧ t.normal = [])
    (hasks : s.station = .listening → s.anyAsk = false → t.anyAsk = false) : t.LifeLaw := by
  obtain ⟨hoff', hlanes', hasks', hentries⟩ := h
  rw [State.LifeLaw, hstation, hoff, htable]
  exact ⟨hoff', hlanes, fun hst => hasks hst (hasks' hst), hentries⟩

theorem State.LifeLaw.congr {s t : State} (h : s.LifeLaw) (htable : t.table = s.table)
    (hstation : t.station = s.station) (haccess : t.access = s.access) (hurgent : t.urgent = s.urgent)
    (hnormal : t.normal = s.normal) : t.LifeLaw := by
  have hany : t.anyAsk = s.anyAsk := by simp only [State.anyAsk, State.slotOrder, hnormal, haccess]
  rw [State.LifeLaw, hstation, haccess, hurgent, hnormal, hany, htable]
  exact h

/-- A station that is on transmits. -/
theorem State.LifeLaw.transmits {s : State} (h : s.LifeLaw) (hon : s.access ≠ .off) : s.station.transmits = true := by
  obtain ⟨hoff, -⟩ := h
  by_contra hno
  exact hon (hoff.mpr (by simpa using hno))

/-- The law where the condition moves between two that are on, and no ASK joins. -/
theorem State.LifeLaw.moves {s t : State} (h : s.LifeLaw) (hon : s.access ≠ .off) (htable : t.table = s.table)
    (hstation : t.station = s.station) (ha : t.access ≠ .off)
    (hasks : s.station = .listening → s.anyAsk = false → t.anyAsk = false) : t.LifeLaw :=
  h.lanes htable hstation ⟨fun h => absurd h ha, fun h => absurd h hon⟩
    (fun hst => by rw [h.transmits hon] at hst; cases hst) hasks

theorem EntryLife.passive {st : StationState} {e d : Entry} (h : EntryLife st e) (hwant : d.want = .wait → e.want = .wait)
    (hmine : d.claim ≠ .mine) (hask : ∀ x, d.claim ≠ .asking x) : EntryLife st d :=
  ⟨fun hc => absurd hc hmine, fun x hc => absurd hc (hask x), fun t hc => absurd hc (hask (some t)),
    fun hw => h.2.2.2 (hwant hw)⟩

theorem takesAsk_cases {st : StationState} (h : st.takesAsk = true) : st = .listening ∨ st = .active :=
  (StationState.takesAsk_iff st).mp h

theorem State.EntryMoves.life {s : State} {e d : Entry} (h : s.EntryMoves e d) (he : EntryLife s.station e) :
    EntryLife s.station d := by
  obtain ⟨-, hwant, hclaim⟩ := h
  obtain ⟨hmine, hask, hsent, hwait⟩ := he
  have hwait' : d.want = .wait → s.station = .listening ∨ s.station = .active := fun hw =>
    (hwant hw).elim hwait takesAsk_cases
  rcases d with ⟨dk, dw, dg, c⟩
  simp only at hclaim
  cases hclaim with
  | stays => exact ⟨hmine, hask, hsent, hwait'⟩
  | yields hc =>
    have hnot : c ≠ .mine ∧ ∀ x, c ≠ .asking x := by cases hc <;> simp
    exact ⟨fun h => absurd h hnot.1, fun x h => absurd h (hnot.2 x), fun x h => absurd h (hnot.2 (some x)), hwait'⟩
  | granted h => exact ⟨fun _ => hsent _ h, nofun, nofun, hwait'⟩

/-- The entry of a key as one of the table. -/
theorem mem_of_claimOf {s : State} {k : Byte} {c : Claim} (h : s.claimOf k = some c) :
    ∃ e, some e ∈ s.table ∧ e.key = k ∧ e.claim = c := by
  obtain ⟨e, he, hc⟩ := claimOf_eq_some.mp h
  exact ⟨e, findEntry_mem he, findEntry_key he, hc⟩

/-- A MINE entry stands only in ACTIVE. -/
theorem State.LifeLaw.active_of_mine {s : State} (h : s.LifeLaw) {k : Byte} (hk : s.claimOf k = some .mine) :
    s.station = .active := by
  obtain ⟨e, he, -, hc⟩ := mem_of_claimOf hk
  exact (h.2.2.2 e he).1 hc

/-- A state without table entries and lanes, whose condition is that of its station. -/
theorem lifeLaw_of_clear {t : State} (hoff : t.access = .off) (hst : t.station.transmits = false)
    (hu : t.urgent = []) (hn : t.normal = [])
    (hentries : ∀ e, some e ∈ t.table → e.claim ≠ .mine ∧ (∀ x, e.claim ≠ .asking x) ∧ e.want ≠ .wait) :
    t.LifeLaw := by
  refine ⟨by simp [hoff, hst], fun _ => ⟨hu, hn⟩,
    fun h => (by rw [h] at hst; cases hst), fun e he => ?_⟩
  obtain ⟨hmine, hask, hwait⟩ := hentries e he
  exact ⟨fun h => absurd h hmine, fun x h => absurd h (hask x), fun x h => absurd h (hask _), fun h => absurd h hwait⟩

theorem not_mem_vacant {t : List (Option Entry)} (h : t = List.replicate 16 none) (e : Entry) : some e ∉ t := by
  rw [h]; simp

/-- Every change keeps the bond of entry states and station states. -/
theorem Change.keeps_lifeLaw {s t : State} (hc : Change w s t) (htable : s.TableLaw) (h : s.LifeLaw) :
    t.LifeLaw := by
  obtain ⟨hoff, hlanes, hasks, hentries⟩ := id h
  have hsame : ∀ {u : State}, u.table = s.table → u.station = s.station → u.access = s.access →
      (s.station.transmits = false → u.urgent = [] ∧ u.normal = []) →
      (s.station = .listening → (∀ k, .ask k ∉ s.normal) → ∀ k, .ask k ∉ u.normal) → u.LifeLaw :=
    fun h1 h2 h3 h4 h5 => h.lanes h1 h2 (by rw [h3]) h4 fun hst hany => by
      rw [anyAsk_eq_false_iff] at hany ⊢
      refine ⟨h5 hst hany.1, fun k => ?_⟩
      rw [State.slotOrder, h3]
      exact hany.2 k
  cases hc with
  | quiet hview _ =>
    exact h.congr (congrArg View.table hview) (congrArg View.station hview) (congrArg View.access hview)
      (congrArg View.urgent hview) (congrArg View.normal hview)
  | cleared hview =>
    exact lifeLaw_of_clear (congrArg View.access hview) (by rw [show t.station = .unconfigured from congrArg View.station hview]; rfl)
      (congrArg View.urgent hview) (congrArg View.normal hview) fun e he =>
        absurd he (not_mem_vacant (congrArg View.table hview) e)
  | goesOffline _ =>
    exact lifeLaw_of_clear rfl rfl rfl rfl fun e he => absurd he (not_mem_vacant rfl e)
  | mutes table _ hmuted =>
    refine lifeLaw_of_clear rfl rfl rfl rfl fun e he => ?_
    simp only [hmuted htable] at he
    obtain ⟨place, -, hplace⟩ := List.mem_map.mp he
    obtain ⟨d, -, rfl⟩ := Option.map_eq_some_iff.mp hplace
    simp only [mutedEntry]
    refine ⟨?_, ?_, ?_⟩ <;> cases d.claim <;> simp
    all_goals split <;> simp_all
  | clocks =>
    refine h.map (tableAfter_eq_map s _) rfl rfl rfl rfl fun e _ hlife => ?_
    split
    · obtain ⟨hmine, hask, hsent, hwait⟩ := hlife
      rcases e with ⟨k, v, g, _ | ⟨a, d⟩ | (_ | x) | _ | q⟩
      · exact ⟨nofun, nofun, nofun, hwait⟩
      · exact ⟨nofun, nofun, nofun, hwait⟩
      · exact ⟨nofun, hask, nofun, hwait⟩
      · exact ⟨nofun, fun _ _ => hask _ rfl, fun _ _ => hsent _ rfl, hwait⟩
      · exact ⟨hmine, nofun, nofun, hwait⟩
      · exact ⟨nofun, nofun, nofun, hwait⟩
    · exact hlife
  | entryMoves k f hf hmoves =>
    exact h.modify rfl rfl rfl rfl rfl fun e he hk hlife =>
      (hmoves e he hk (hk ▸ entry_of_mem htable.2.1 he)).life hlife
  | askStarts k e normal he hfree htakes hnormal =>
    have hst : s.station = .listening ∨ s.station = .active :=
      htakes.elim takesAsk_cases (hentries e (findEntry_mem he)).2.2.2
    have hasking : (setClaim k (.asking none) s).LifeLaw :=
      h.modify (k := k) (f := fun e => { e with claim := .asking none }) rfl rfl rfl rfl rfl
        fun d _ _ hlife => ⟨nofun, fun _ _ => hst, nofun, hlife.2.2.2⟩
    refine hasking.lanes rfl rfl Iff.rfl (fun hno => ?_) fun hlisten hany => ?_
    · rcases hst with hst | hst <;> rw [setClaim_station, hst] at hno <;> cases hno
    · rcases hnormal with rfl | ⟨hactive, -⟩
      · exact hany
      · rw [setClaim_station, hactive] at hlisten; cases hlisten
  | listened ks hst _ _ =>
    have hlife : ∀ e, EntryLife .listening e → EntryLife .active e := fun e he =>
      ⟨fun _ => rfl, fun _ _ => .inr rfl, fun _ _ => rfl, fun _ => .inr rfl⟩
    refine ⟨?_, nofun, nofun, fun e he => hlife e (hst ▸ hentries e he)⟩
    rw [hst] at hoff
    exact hoff
  | askSent k a x ha horder hclaim =>
    have htransmits := h.transmits (by rw [ha]; nofun)
    have hactive : s.station = .active := by
      obtain ⟨e, he, -, hc⟩ := mem_of_claimOf hclaim
      refine ((hentries e he).2.1 none hc).resolve_left fun hlisten => ?_
      exact ((anyAsk_eq_false_iff s).mp (hasks hlisten)).2 k (by simp [State.slotOrder, ha, Access.attempt, horder])
    have hsent : (setClaim k (.asking (some x)) s).LifeLaw :=
      h.modify (k := k) (f := fun e => { e with claim := .asking (some x) }) rfl rfl rfl rfl rfl
        fun d _ _ hlife => ⟨nofun, fun _ _ => .inr hactive, fun _ _ => hactive, hlife.2.2.2⟩
    exact hsent.moves (by rw [setClaim_access, ha]; nofun) rfl rfl nofun fun hlisten => by
      rw [setClaim_station, hactive] at hlisten; cases hlisten
  | released k hmine =>
    have hactive := h.active_of_mine hmine
    have hfree : (setWant k .none (setClaim k .free s)).LifeLaw := by
      have hclaim : (setClaim k .free s).LifeLaw :=
        h.modify (k := k) (f := fun e => { e with claim := .free }) rfl rfl rfl rfl rfl
          fun d _ _ hlife => hlife.passive id nofun nofun
      exact hclaim.modify (k := k) (f := fun e => { e with want := .none }) rfl rfl rfl rfl rfl
        fun d _ _ hlife => ⟨hlife.1, hlife.2.1, hlife.2.2.1, nofun⟩
    refine hfree.lanes (requestState_table _ _) (requestState_station _ _) (by rw [releaseMine, requestState_access])
      (fun hno => ?_) fun hlisten => ?_
    · rw [setWant_station, setClaim_station, hactive] at hno; cases hno
    · rw [setWant_station, setClaim_station, hactive] at hlisten; cases hlisten
  | allocates k u habsent hk hu =>
    obtain ⟨pre, post, hs, rfl, -⟩ := allocate_some hu
    refine ⟨hoff, hlanes, hasks, fun e he => ?_⟩
    rcases List.mem_append.mp he with he | he
    · exact hentries e (by rw [hs]; exact List.mem_append_left _ he)
    · rcases List.mem_cons.mp he with he | he
      · cases he
        exact ⟨nofun, nofun, nofun, nofun⟩
      · exact hentries e (by rw [hs]; exact List.mem_append_right _ (List.mem_cons_of_mem _ he))
  | vacates k e _ _ => exact ⟨hoff, hlanes, hasks, fun e he => hentries e (mem_vacate he)⟩
  | established c bcast hst _ =>
    obtain ⟨hu, hn⟩ := hlanes (by rw [hst]; rfl)
    refine ⟨⟨nofun, nofun⟩, nofun, fun _ => ?_, fun e he => ?_⟩
    · rw [anyAsk_eq_false_iff]
      exact ⟨fun k hk => by simp [hn] at hk, fun k => nofun⟩
    · have hlife := hentries e he
      rw [hst] at hlife
      obtain ⟨hmine, -, hsent, -⟩ := hlife
      exact ⟨fun h => (nomatch hmine h), fun _ _ => .inl rfl, fun x h => (nomatch hsent x h), fun _ => .inl rfl⟩
  | leaves limit hst hleft =>
    have htransmits : s.station.transmits = true := by
      rcases takesAsk_cases hst with hs | hs <;> rw [hs] <;> rfl
    refine ⟨⟨fun ha => ?_, nofun⟩, nofun, nofun, fun e he => ?_⟩
    · rw [hoff.mp ha] at htransmits; cases htransmits
    · rw [← hleft htable e he]
      refine ⟨fun h => ?_, fun x h => ?_, fun x h => ?_, nofun⟩ <;> simp only [leftEntry] at h <;>
        cases hc : e.claim <;> simp [hc] at h
  | waits a hs ha =>
    exact h.moves (off_of_waits hs) rfl rfl (off_of_waits ha) fun _ hany => by
      rw [anyAsk_eq_false_iff] at hany ⊢
      exact ⟨hany.1, fun k => by cases a <;> simp_all [State.slotOrder, Access.attempt, Access.waits]⟩
  | drives a b ha hb =>
    exact h.moves (by rw [ha]; nofun) rfl rfl nofun fun _ hany => by
      rw [anyAsk_eq_false_iff] at hany ⊢
      refine ⟨hany.1, fun k => ?_⟩
      have := hany.2 k
      simpa [State.slotOrder, ha, Access.attempt, hb] using this
  | begins hwaits hline =>
    refine h.moves (off_of_waits hwaits) (by rw [beginAttempt_eq]) (by rw [beginAttempt_eq]) (beginAttempt_on s)
      fun _ hany => ?_
    rw [anyAsk_eq_false_iff] at hany ⊢
    rcases beginAttempt_cases s with ⟨pre, u, post, b, -, -, -, heq⟩ | ⟨-, pre, n, post, b, hn, -, -, heq⟩ |
        ⟨-, -, heq⟩ <;> rw [heq]
    · exact ⟨hany.1, fun k => by simp [State.slotOrder, Access.attempt, State.newAttempt]⟩
    · refine ⟨fun k hk => hany.1 k ?_, fun k => ?_⟩
      · rw [hn]; exact List.mem_append_right _ (List.mem_cons_of_mem _ hk)
      · simp only [State.slotOrder, Access.attempt, State.newAttempt, Option.map_some, ne_eq, Option.some.injEq,
          Order.normal.injEq]
        rintro rfl
        exact hany.1 k (by rw [hn]; exact List.mem_append_right _ List.mem_cons_self)
    · exact ⟨nofun, fun k => nofun⟩
  | handsBack a ha =>
    refine h.moves (by rw [ha]; nofun) (by rw [handBack_eq]) (by rw [handBack_eq])
      (by rw [handBack_eq]; nofun) fun _ hany => ?_
    rw [anyAsk_eq_false_iff] at hany ⊢
    refine ⟨fun k hk => ?_, fun k => by rw [handBack_eq]; nofun⟩
    rcases handBack_cases a.order s with heq | ⟨u, -, -, heq⟩ | ⟨n, ho, -, heq⟩ <;> rw [heq] at hk
    · exact hany.1 k hk
    · exact hany.1 k hk
    · rcases List.mem_cons.mp hk with rfl | hk
      · exact hany.2 k (by simp [State.slotOrder, ha, Access.attempt, ho])
      · exact hany.1 k hk
  | slotDone a ha =>
    exact h.moves (by rw [ha]; nofun) rfl rfl nofun fun _ hany => by
      rw [anyAsk_eq_false_iff] at hany ⊢
      exact ⟨hany.1, fun k => nofun⟩
  | notice n _ => exact h.congr (by simp) (by simp) (by simp) (by simp) (by simp)
  | stateOrder o _ _ _ =>
    refine hsame (by simp) (by simp) (by simp) (fun hst => ?_) fun _ hno => by simpa using hno
    rw [requestState_silent hst]; exact hlanes hst
  | objectOrder k _ =>
    refine hsame (by simp) (by simp) (by simp) (fun hst => ?_) fun _ hno => by simpa using hno
    simpa [requestObject, hst] using hlanes hst
  | holdRemoved k =>
    exact hsame rfl rfl rfl (fun hst => by simp [removeHold, hlanes hst]) fun _ hno => hno
  | askRemoved k =>
    exact hsame rfl rfl rfl (fun hst => by simp [removeAsk, hlanes hst]) fun _ hno j hj =>
      hno j (List.mem_filter.mp hj).1
  | presenceOrder =>
    refine hsame (by simp) (by simp) (by simp) (fun hst => ?_) fun _ hno j hj => ?_
    · simpa [requestPresence, hst] using hlanes hst
    · rw [requestPresence] at hj
      split at hj
      · exact hno j (by simpa using hj)
      · exact hno j hj
  | postOrder p _ =>
    refine hsame (by rw [requestPost_eq]) (by rw [requestPost_eq]) (by rw [requestPost_eq]) (fun hst => ?_)
      fun _ hno j hj => ?_
    · simpa [requestPost, hst] using hlanes hst
    · rw [requestPost] at hj
      split at hj
      · exact hno j (by simpa using hj)
      · exact hno j hj
  | worldMoves | noticeFetched | mailJoins | mailFetched | peerHears | peerGoes | faulted => exact h

/-- Two laws that every step keeps together: those of the table and of the bond. -/
theorem step_keeps_tableLaw_lifeLaw {s t : State} (htable : s.TableLaw) (hlife : s.LifeLaw) (h : step s = .next t) :
    t.TableLaw ∧ t.LifeLaw :=
  step_keeps (P := fun s => s.TableLaw ∧ s.LifeLaw)
    (fun _ _ hview _ ht => ⟨ht.1.congr (congrArg View.table hview) (congrArg View.ownAddr hview),
      ht.2.congr (congrArg View.table hview) (congrArg View.station hview) (congrArg View.access hview)
        (congrArg View.urgent hview) (congrArg View.normal hview)⟩)
    (fun _ _ hc hs => ⟨hc.keeps_tableLaw hs.1, hc.keeps_lifeLaw hs.1 hs.2⟩)
    (fun _ _ _ => ⟨.of_vacant rfl, lifeLaw_of_clear rfl rfl rfl rfl fun e he => absurd he (not_mem_vacant rfl e)⟩)
    ⟨htable, hlife⟩ h

/-- Settles O55: the bond is kept by every change of a state that keeps it and the law of the table. -/
theorem stepKeepsLifeLaw : Obligations.StepKeepsLifeLaw :=
  fun _ _ htable hlife h => (step_keeps_tableLaw_lifeLaw htable hlife h).2

end Sys2Proof.Machine

namespace Sys2Proof.Machine
variable {w : Bool}

/-! ### The laws of the lanes, one lane at a time -/

/-- The law of the urgent lane (R116). -/
def State.UrgentLaw (s : State) : Prop :=
  (s.urgent.filterMap UrgentOrder.stateKey).Nodup ∧ (s.urgent.filterMap UrgentOrder.objectKey).Nodup ∧
    (∀ o ∈ s.urgent, (s.entry o.key).isSome = true) ∧ ∀ k, .hold k ∈ s.urgent → s.claimOf k = some .mine

/-- The law of the normal lane (R119). -/
def State.NormalLaw (s : State) : Prop :=
  (s.normal.filterMap NormalOrder.askKey).Nodup ∧ (∀ k, .ask k ∈ s.normal → s.claimOf k = some (.asking none)) ∧
    s.normal.countP NormalOrder.isPresence ≤ 1

/-- The law of the attempt slot (R13, R133). -/
def State.SlotLaw (s : State) : Prop :=
  (∀ o k, s.slotOrder = some o → o.key = some k → (s.entry k).isSome = true) ∧
    ∀ k t, s.slotOrder = some (.normal (.ask k)) → s.claimOf k ≠ some (.asking (some t))

theorem laneLaw_iff (s : State) : s.LaneLaw ↔ s.UrgentLaw ∧ s.NormalLaw ∧ s.pendingPosts ≤ 4 ∧ s.SlotLaw := by
  constructor
  · rintro ⟨h1, h2, h3, h4, h5, h6, h7, h8, h9, h10⟩
    exact ⟨⟨h1, h2, h3, h4⟩, ⟨h5, h6, h7⟩, h8, h9, h10⟩
  · rintro ⟨⟨h1, h2, h3, h4⟩, ⟨h5, h6, h7⟩, h8, h9, h10⟩
    exact ⟨h1, h2, h3, h4, h5, h6, h7, h8, h9, h10⟩

theorem claimOf_congr {s t : State} (h : t.table = s.table) (k : Byte) : t.claimOf k = s.claimOf k := by
  simp only [State.claimOf, State.entry, h]

theorem entry_congr {s t : State} (h : t.table = s.table) (k : Byte) : t.entry k = s.entry k := by
  simp only [State.entry, h]

/-- Orders can leave the urgent lane, and entries change that no order needs. -/
theorem State.UrgentLaw.of_sublist {s t : State} (h : s.UrgentLaw) (hsub : t.urgent.Sublist s.urgent)
    (hkeep : ∀ o ∈ t.urgent, (s.entry o.key).isSome = true → (t.entry o.key).isSome = true)
    (hmine : ∀ k, .hold k ∈ t.urgent → s.claimOf k = some .mine → t.claimOf k = some .mine) : t.UrgentLaw := by
  obtain ⟨hstate, hobject, hentry, hhold⟩ := h
  exact ⟨hstate.sublist (hsub.filterMap _), hobject.sublist (hsub.filterMap _),
    fun o ho => hkeep o ho (hentry o (hsub.subset ho)), fun k hk => hmine k hk (hhold k (hsub.subset hk))⟩

theorem State.UrgentLaw.congr {s t : State} (h : s.UrgentLaw) (hurgent : t.urgent = s.urgent)
    (htable : t.table = s.table) : t.UrgentLaw :=
  h.of_sublist (by rw [hurgent]) (fun o _ ho => by rwa [entry_congr htable])
    fun k _ hk => by rwa [claimOf_congr htable]

theorem State.NormalLaw.of_sublist {s t : State} (h : s.NormalLaw) (hsub : t.normal.Sublist s.normal)
    (hask : ∀ k, .ask k ∈ t.normal → s.claimOf k = some (.asking none) → t.claimOf k = some (.asking none)) :
    t.NormalLaw := by
  obtain ⟨hasks, hheld, hpresence⟩ := h
  exact ⟨hasks.sublist (hsub.filterMap _), fun k hk => hask k hk (hheld k (hsub.subset hk)),
    le_trans (hsub.countP_le) hpresence⟩

theorem State.NormalLaw.congr {s t : State} (h : s.NormalLaw) (hnormal : t.normal = s.normal)
    (htable : t.table = s.table) : t.NormalLaw :=
  h.of_sublist (by rw [hnormal]) fun k _ hk => by rwa [claimOf_congr htable]

/-- The slot keeps its order, and entries change that it does not need. -/
theorem State.SlotLaw.of_same {s t : State} (h : s.SlotLaw) (hslot : t.slotOrder = s.slotOrder)
    (hkeep : ∀ o k, s.slotOrder = some o → o.key = some k → (s.entry k).isSome = true → (t.entry k).isSome = true)
    (hsent : ∀ k x, s.slotOrder = some (.normal (.ask k)) → t.claimOf k = some (.asking (some x)) →
      ∃ y, s.claimOf k = some (.asking (some y))) : t.SlotLaw := by
  obtain ⟨hentry, hunsent⟩ := h
  rw [State.SlotLaw, hslot]
  refine ⟨fun o k ho hk => hkeep o k ho hk (hentry o k ho hk), fun k x ho hc => ?_⟩
  obtain ⟨y, hy⟩ := hsent k x ho hc
  exact hunsent k y ho hy

theorem State.SlotLaw.congr {s t : State} (h : s.SlotLaw) (hslot : t.slotOrder = s.slotOrder)
    (htable : t.table = s.table) : t.SlotLaw :=
  h.of_same hslot (fun o k _ _ hk => by rwa [entry_congr htable])
    fun k x _ hc => ⟨x, by rwa [claimOf_congr htable] at hc⟩

theorem State.SlotLaw.of_empty {t : State} (h : t.slotOrder = none) : t.SlotLaw := by
  rw [State.SlotLaw, h]
  exact ⟨nofun, nofun⟩

/-! ### Posts -/

theorem length_lanePosts (l : List NormalOrder) : (lanePosts l).length = l.countP NormalOrder.isPost := by
  induction l with
  | nil => rfl
  | cons o l ih => cases o <;> simp [lanePosts, NormalOrder.isPost, ih, List.countP_cons]

/-- A POST order in the slot counts as pending (R158). -/
def slotPosts (o : Option Order) : Nat :=
  match o with
  | some (.normal (.post _)) => 1
  | _ => 0

theorem pendingPosts_eq (s : State) :
    s.pendingPosts = s.normal.countP NormalOrder.isPost + slotPosts s.slotOrder := by
  rw [State.pendingPosts, length_lanePosts, State.slotPost]
  rcases s.slotOrder with _ | (u | (k | b | p)) <;> rfl

theorem pendingPosts_le {s t : State} {n : Nat} (h : s.pendingPosts ≤ n)
    (hnormal : t.normal.countP NormalOrder.isPost ≤ s.normal.countP NormalOrder.isPost)
    (hslot : slotPosts t.slotOrder ≤ slotPosts s.slotOrder) : t.pendingPosts ≤ n := by
  rw [pendingPosts_eq] at h ⊢
  omega

/-! ### Orders that join -/

theorem stateKey_of_isStateOf {k : Byte} {o : UrgentOrder} (h : o.isStateOf k = true) : o.stateKey = some k := by
  rcases isStateOf_iff.mp h with rfl | ⟨b, rfl⟩ <;> rfl

theorem objectKey_of_isStateOf {k : Byte} {o : UrgentOrder} (h : o.isStateOf k = true) : o.objectKey = none := by
  rcases isStateOf_iff.mp h with rfl | ⟨b, rfl⟩ <;> rfl

theorem mergeState_isStateOf {k : Byte} {x o : UrgentOrder} (hx : x.isStateOf k = true) (ho : o.isStateOf k = true) :
    (mergeState x o).isStateOf k = true := by
  rcases isStateOf_iff.mp hx with rfl | ⟨b, rfl⟩ <;> rcases isStateOf_iff.mp ho with rfl | ⟨c, rfl⟩ <;>
    simp [mergeState, UrgentOrder.isStateOf]

/-- Where a state order is placed: at the tail, or in the place of the one of its key. -/
theorem placeState_cases {o : UrgentOrder} (lane : List UrgentOrder) :
    ((∀ x ∈ lane, x.isStateOf o.key = false) ∧ placeState o lane = lane ++ [o]) ∨
    ∃ pre x post, lane = pre ++ x :: post ∧ x.isStateOf o.key = true ∧
      placeState o lane = pre ++ mergeState x o :: post := by
  induction lane with
  | nil => exact .inl ⟨nofun, rfl⟩
  | cons y lane ih =>
    by_cases hy : y.isStateOf o.key = true
    · exact .inr ⟨[], y, lane, rfl, hy, by simp [placeState, hy]⟩
    · have hplace : placeState o (y :: lane) = y :: placeState o lane := by simp [placeState, hy]
      rcases ih with ⟨hnone, h⟩ | ⟨pre, x, post, rfl, hx, h⟩
      · exact .inl ⟨List.forall_mem_cons.mpr ⟨by simpa using hy, hnone⟩, by rw [hplace, h]; rfl⟩
      · exact .inr ⟨y :: pre, x, post, rfl, hx, by rw [hplace, h]; rfl⟩

theorem hold_of_mergeState {k : Byte} {x o : UrgentOrder} (ho : o.isStateOf o.key = true)
    (h : mergeState x o = .hold k) : o = .hold k := by
  rcases isStateOf_iff.mp ho with hk | ⟨b, hk⟩
  · rw [hk] at h
    cases x <;> simpa [mergeState] using hk.trans h
  · rw [hk] at h
    cases x <;> simp [mergeState] at h

/-- A state order of a key with an entry joins, a HOLD only for a MINE one; a HOLD that stands behind it was one that
stood before, or is it. -/
theorem State.UrgentLaw.place {s t : State} {o : UrgentOrder} (hnodup : (s.urgent.filterMap UrgentOrder.stateKey).Nodup)
    (hobject : (s.urgent.filterMap UrgentOrder.objectKey).Nodup) (ho : o.isStateOf o.key = true)
    (ht : t.urgent = placeState o s.urgent)
    (hentry : ∀ x ∈ s.urgent, (t.entry x.key).isSome = true) (hself : (t.entry o.key).isSome = true)
    (hmine : ∀ k, .hold k ∈ s.urgent → k ≠ o.key → t.claimOf k = some .mine)
    (hhold : ∀ k, o = .hold k → t.claimOf k = some .mine) : t.UrgentLaw := by
  rw [State.UrgentLaw, ht]
  rcases placeState_cases (o := o) s.urgent with ⟨hnone, h⟩ | ⟨pre, x, post, hs, hx, h⟩ <;> rw [h]
  · have hnew : o.key ∉ s.urgent.filterMap UrgentOrder.stateKey := fun hmem => by
      obtain ⟨x, hx, hxk⟩ := List.mem_filterMap.mp hmem
      have := hnone x hx
      cases x <;> simp_all [UrgentOrder.stateKey, UrgentOrder.isStateOf]
    refine ⟨?_, ?_, fun x hx => ?_, fun k hk => ?_⟩
    · rw [List.filterMap_append, List.filterMap_cons_some (stateKey_of_isStateOf ho), List.filterMap_nil]
      exact hnodup.append (List.nodup_singleton _) (by simpa using hnew)
    · rw [List.filterMap_append, List.filterMap_cons_none (objectKey_of_isStateOf ho), List.filterMap_nil,
        List.append_nil]
      exact hobject
    · rcases List.mem_append.mp hx with hx | hx
      · exact hentry x hx
      · rw [List.mem_singleton.mp hx]; exact hself
    · rcases List.mem_append.mp hk with hk | hk
      · exact hmine k hk fun he => by
          have := hnone _ hk
          simp [UrgentOrder.isStateOf, he] at this
      · exact hhold k (List.mem_singleton.mp hk).symm
  · have hmerge := mergeState_isStateOf hx ho
    rw [hs, List.filterMap_append, List.filterMap_cons_some (stateKey_of_isStateOf hx)] at hnodup
    rw [hs, List.filterMap_append, List.filterMap_cons_none (objectKey_of_isStateOf hx)] at hobject
    have hother : ∀ k, .hold k ∈ pre ∨ .hold k ∈ post → .hold k ∈ s.urgent ∧ k ≠ o.key := fun k hk => by
      refine ⟨by rw [hs]; simp only [List.mem_append, List.mem_cons]; tauto, fun he => ?_⟩
      have hmem : ∀ l : List UrgentOrder, .hold k ∈ l → o.key ∈ l.filterMap UrgentOrder.stateKey := fun l hl =>
        List.mem_filterMap.mpr ⟨_, hl, by rw [← he]; rfl⟩
      rw [List.nodup_middle, List.nodup_cons, List.mem_append] at hnodup
      exact hnodup.1 (hk.imp (hmem _) (hmem _))
    refine ⟨?_, ?_, fun y hy => ?_, fun k hk => ?_⟩
    · rw [List.filterMap_append, List.filterMap_cons_some (stateKey_of_isStateOf hmerge)]
      exact hnodup
    · rw [List.filterMap_append, List.filterMap_cons_none (objectKey_of_isStateOf hmerge)]
      exact hobject
    · rcases List.mem_append.mp hy with hy | hy
      · exact hentry y (by rw [hs]; exact List.mem_append_left _ hy)
      · rcases List.mem_cons.mp hy with rfl | hy
        · rw [key_of_isStateOf hmerge]; exact hself
        · exact hentry y (by rw [hs]; exact List.mem_append_right _ (List.mem_cons_of_mem _ hy))
    · rcases List.mem_append.mp hk with hk | hk
      · obtain ⟨hmem, hne⟩ := hother k (.inl hk)
        exact hmine k hmem hne
      · rcases List.mem_cons.mp hk with hk | hk
        · exact hhold k (hold_of_mergeState ho hk.symm)
        · obtain ⟨hmem, hne⟩ := hother k (.inr hk)
          exact hmine k hmem hne

/-- An order of a key with an entry is put at one end of the lane, where none of its form stands for the key. -/
theorem State.UrgentLaw.join {s t : State} {o : UrgentOrder} (h : s.UrgentLaw) (ht : t.urgent.Perm (o :: s.urgent))
    (htable : t.table = s.table) (hentry : (s.entry o.key).isSome = true)
    (hstate : ∀ k, o.stateKey = some k → k ∉ s.urgent.filterMap UrgentOrder.stateKey)
    (hobject : ∀ k, o.objectKey = some k → k ∉ s.urgent.filterMap UrgentOrder.objectKey)
    (hhold : ∀ k, o = .hold k → s.claimOf k = some .mine) : t.UrgentLaw := by
  obtain ⟨hstates, hobjects, hentries, hholds⟩ := h
  have hcons {f : UrgentOrder → Option Byte} (hl : (s.urgent.filterMap f).Nodup)
      (hnew : ∀ k, f o = some k → k ∉ s.urgent.filterMap f) : (t.urgent.filterMap f).Nodup := by
    rw [(ht.filterMap f).nodup_iff]
    cases hf : f o with
    | none => rw [List.filterMap_cons_none hf]; exact hl
    | some k => rw [List.filterMap_cons_some hf]; exact List.nodup_cons.mpr ⟨hnew k hf, hl⟩
  refine ⟨hcons hstates hstate, hcons hobjects hobject, fun x hx => ?_, fun k hk => ?_⟩
  · rw [entry_congr htable]
    rcases List.mem_cons.mp (ht.mem_iff.mp hx) with rfl | hx
    · exact hentry
    · exact hentries x hx
  · rw [claimOf_congr htable]
    rcases List.mem_cons.mp (ht.mem_iff.mp hk) with hk | hk
    · exact hhold k hk.symm
    · exact hholds k hk

/-- An order is put at one end of the normal lane. -/
theorem State.NormalLaw.join {s t : State} {o : NormalOrder} (h : s.NormalLaw) (ht : t.normal.Perm (o :: s.normal))
    (htable : t.table = s.table) (hask : ∀ k, o = .ask k → .ask k ∉ s.normal ∧ s.claimOf k = some (.asking none))
    (hpresence : o.isPresence = true → s.normal.any NormalOrder.isPresence = false) : t.NormalLaw := by
  obtain ⟨hasks, hheld, hone⟩ := h
  refine ⟨?_, fun k hk => ?_, ?_⟩
  · rw [(ht.filterMap _).nodup_iff]
    cases o with
    | ask k =>
      refine List.nodup_cons.mpr ⟨fun hmem => ?_, hasks⟩
      obtain ⟨x, hx, hxk⟩ := List.mem_filterMap.mp hmem
      cases x with
      | ask j => cases hxk; exact (hask k rfl).1 hx
      | presence b => cases hxk
      | post p => cases hxk
    | presence b => exact hasks
    | post p => exact hasks
  · rw [claimOf_congr htable]
    rcases List.mem_cons.mp (ht.mem_iff.mp hk) with hk | hk
    · exact (hask k hk.symm).2
    · exact hheld k hk
  · rw [ht.countP_eq, List.countP_cons]
    by_cases hp : o.isPresence = true
    · have hzero : s.normal.countP NormalOrder.isPresence = 0 :=
        List.countP_eq_zero.mpr fun x hx => by
          simpa using List.any_eq_false.mp (hpresence hp) x hx
      simp [hzero, hp]
    · simpa [hp] using hone

/-! ### Entries that change -/

theorem claimOf_setEntry {k : Byte} {f : Entry → Entry} (hf : ∀ e, (f e).key = e.key) (s : State) (j : Byte) :
    (setEntry k f s).claimOf j = if j = k then (s.entry k).map (fun e => (f e).claim) else s.claimOf j := by
  simp only [State.claimOf, State.entry, setEntry, findEntry_modify j k f hf]
  split
  · next h => subst h; simp [Option.map_map, Function.comp_def]
  · simp

theorem isSome_entry_setEntry {k : Byte} {f : Entry → Entry} (hf : ∀ e, (f e).key = e.key) (s : State) (j : Byte) :
    ((setEntry k f s).entry j).isSome = (s.entry j).isSome := by
  simp only [State.entry, setEntry, findEntry_modify j k f hf, Option.isSome_map]

theorem claimOf_setClaim (k : Byte) (c : Claim) (s : State) (j : Byte) :
    (setClaim k c s).claimOf j = if j = k then (s.entry k).map (fun _ => c) else s.claimOf j :=
  claimOf_setEntry (f := fun e => { e with claim := c }) (fun _ => rfl) s j

/-- An entry that moves is still what the orders of its key need. -/
theorem State.EntryMoves.keeps {s : State} {k : Byte} {f : Entry → Entry} (hf : ∀ e, (f e).key = e.key)
    (h : ∀ e, some e ∈ s.table → e.key = k → s.entry k = some e → s.EntryMoves e (f e)) :
    (∀ j, .hold j ∈ s.urgent → s.claimOf j = some .mine → (setEntry k f s).claimOf j = some .mine) ∧
    (∀ j, .ask j ∈ s.normal → s.claimOf j = some (.asking none) →
      (setEntry k f s).claimOf j = some (.asking none)) ∧
    ∀ j x, (setEntry k f s).claimOf j = some (.asking (some x)) → ∃ y, s.claimOf j = some (.asking (some y)) := by
  have hmoves : ∀ e, s.entry k = some e → s.ClaimMoves e (f e).claim := fun e he =>
    (h e (findEntry_mem he) (findEntry_key he) he).claim
  refine ⟨fun j hj hc => ?_, fun j hj hc => ?_, fun j x hc => ?_⟩
  · rw [claimOf_setEntry hf]
    split
    · next hk =>
      subst hk
      obtain ⟨e, he, hmine⟩ := claimOf_eq_some.mp hc
      have hm := hmoves e he
      rw [← findEntry_key he] at hj
      rw [he, Option.map_some]
      generalize (f e).claim = c at hm
      cases hm with
      | stays => rw [hmine]
      | yields _ hold _ => exact absurd hj (hold hmine)
      | granted => rfl
    · exact hc
  · rw [claimOf_setEntry hf]
    split
    · next hk =>
      subst hk
      obtain ⟨e, he, hask⟩ := claimOf_eq_some.mp hc
      have hm := hmoves e he
      rw [← findEntry_key he] at hj
      rw [he, Option.map_some]
      generalize (f e).claim = c at hm
      cases hm with
      | stays => rw [hask]
      | yields _ _ ask => exact absurd hj (ask hask)
      | granted hsent => rw [hask] at hsent; cases hsent
    · exact hc
  · rw [claimOf_setEntry hf] at hc
    split at hc
    · next hk =>
      subst hk
      obtain ⟨e, he, hcl⟩ := Option.map_eq_some_iff.mp hc
      have hm := hmoves e he
      rw [hcl] at hm
      refine ⟨x, claimOf_eq_some.mpr ⟨e, he, ?_⟩⟩
      generalize hg : Claim.asking (some x) = c at hm
      cases hm with
      | stays => exact hg.symm ▸ rfl
      | yields hy => subst hg; cases hy
      | granted => cases hg
    · exact ⟨x, hc⟩

end Sys2Proof.Machine

namespace Sys2Proof.Machine
variable {w : Bool}

/-! ### The claims behind the changes of the table -/

theorem claimOf_map {s t : State} {g : Entry → Entry} (hg : ∀ e, (g e).key = e.key)
    (htable : t.table = s.table.map fun place => place.map g) (k : Byte) :
    t.claimOf k = (s.entry k).map (fun e => (g e).claim) ∧ (t.entry k).isSome = (s.entry k).isSome := by
  simp [State.claimOf, State.entry, htable, findEntry_map hg, Option.map_map, Function.comp_def]

/-- The passage of time leaves a claim without a timer, and does not start an ask's window. -/
theorem claimOf_advanceClocks (s : State) (k : Byte) :
    (s.claimOf k = some .mine → (advanceClocks s).claimOf k = some .mine) ∧
    (s.claimOf k = some (.asking none) → (advanceClocks s).claimOf k = some (.asking none)) ∧
    (∀ x, (advanceClocks s).claimOf k = some (.asking (some x)) → ∃ y, s.claimOf k = some (.asking (some y))) ∧
    ((advanceClocks s).entry k).isSome = (s.entry k).isSome := by
  obtain ⟨hclaim, hsome⟩ := claimOf_map (t := advanceClocks s)
    (g := fun e => if s.monitor.timersRun then { e with claim := e.claim.after (sampleTime s.rate) } else e)
    (fun e => by split <;> rfl) (tableAfter_eq_map s _) k
  rw [hclaim, hsome, State.claimOf]
  cases s.entry k with
  | none => exact ⟨nofun, nofun, fun x => nofun, rfl⟩
  | some e =>
    rcases e with ⟨j, v, g, _ | ⟨a, d⟩ | (_ | x) | _ | q⟩ <;> cases s.monitor.timersRun <;> simp [Claim.after]

theorem findEntry_append (k : Byte) (t u : List (Option Entry)) :
    findEntry k (t ++ u) = (findEntry k t).or (findEntry k u) := by
  induction t with
  | nil => rfl
  | cons x t ih =>
    cases x with
    | none => simpa [findEntry] using ih
    | some e => by_cases hk : e.key = k <;> simp [findEntry, hk, ih]

/-- Allocation leaves the entry of every other key. -/
theorem entry_allocate {s : State} {k j : Byte} {u : List (Option Entry)} (hu : allocate (newEntry k) s.table = some u)
    (hj : j ≠ k) : ({ s with table := u } : State).entry j = s.entry j := by
  obtain ⟨pre, post, hs, rfl, -⟩ := allocate_some hu
  have hnew : findEntry j (some (newEntry k) :: post) = findEntry j post := by
    rw [findEntry]
    exact if_neg fun h => hj (by simpa [newEntry] using h.symm)
  simp only [State.entry, hs, findEntry_append, hnew]
  rfl

/-- Vacating leaves the entry of every other key. -/
theorem entry_vacate {s : State} {k j : Byte} (hj : j ≠ k) :
    ({ s with table := vacateEntry k s.table } : State).entry j = s.entry j := by
  simp only [State.entry]
  induction s.table with
  | nil => rfl
  | cons x t ih =>
    have hcons : vacateEntry k (x :: t) = (x.filter fun e => e.key != k) :: vacateEntry k t := rfl
    rw [hcons]
    cases x with
    | none => simpa [findEntry] using ih
    | some e =>
      by_cases hk : e.key = k
      · have hne : e.key ≠ j := fun h => hj (h.symm.trans hk)
        rw [Option.filter, if_neg (by simp [hk]), findEntry, findEntry, if_neg (by simpa using hne)]
        exact ih
      · rw [Option.filter, if_pos (by simpa using hk), findEntry, findEntry, ih]

theorem claimOf_allocate {s : State} {k j : Byte} {u : List (Option Entry)}
    (hu : allocate (newEntry k) s.table = some u) (hj : j ≠ k) :
    ({ s with table := u } : State).claimOf j = s.claimOf j := congrArg (Option.map Entry.claim) (entry_allocate hu hj)

theorem claimOf_vacate {s : State} {k j : Byte} (hj : j ≠ k) :
    ({ s with table := vacateEntry k s.table } : State).claimOf j = s.claimOf j :=
  congrArg (Option.map Entry.claim) (entry_vacate hj)

/-- A claim moved: no other key's claim changes, and no entry goes. -/
theorem claimOf_setClaim_ne {k j : Byte} (h : j ≠ k) (c : Claim) (s : State) :
    (setClaim k c s).claimOf j = s.claimOf j := by rw [claimOf_setClaim, if_neg h]

theorem claimOf_setClaim_self {s : State} {k : Byte} {d : Claim} (h : s.claimOf k = some d) (c : Claim) :
    (setClaim k c s).claimOf k = some c := by
  obtain ⟨e, he, -⟩ := claimOf_eq_some.mp h
  rw [claimOf_setClaim, if_pos rfl, he]; rfl

theorem isSome_entry_setClaim (k : Byte) (c : Claim) (s : State) (j : Byte) :
    ((setClaim k c s).entry j).isSome = (s.entry j).isSome :=
  isSome_entry_setEntry (f := fun e => { e with claim := c }) (fun _ => rfl) s j

theorem claimOf_setWant (k : Byte) (v : Want) (s : State) (j : Byte) : (setWant k v s).claimOf j = s.claimOf j := by
  rw [setWant, claimOf_setEntry (f := fun e => { e with want := v }) (fun _ => rfl)]
  split
  · next h => rw [h]; rfl
  · rfl

theorem isSome_entry_setWant (k : Byte) (v : Want) (s : State) (j : Byte) :
    ((setWant k v s).entry j).isSome = (s.entry j).isSome :=
  isSome_entry_setEntry (f := fun e => { e with want := v }) (fun _ => rfl) s j

/-- What a MINE entry released leaves: every entry, and the claim of every other key. -/
theorem claimOf_releaseMine {k j : Byte} (h : j ≠ k) (s : State) : (releaseMine k s).claimOf j = s.claimOf j := by
  rw [releaseMine, claimOf_congr (requestState_table _ _), claimOf_setWant, claimOf_setClaim_ne h]

theorem isSome_entry_releaseMine (k j : Byte) (s : State) :
    ((releaseMine k s).entry j).isSome = (s.entry j).isSome := by
  rw [releaseMine, entry_congr (requestState_table _ _), isSome_entry_setWant, isSome_entry_setClaim]

theorem State.UrgentLaw.of_empty {t : State} (h : t.urgent = []) : t.UrgentLaw := by
  rw [State.UrgentLaw, h]
  exact ⟨List.nodup_nil, List.nodup_nil, nofun, nofun⟩

theorem State.NormalLaw.of_empty {t : State} (h : t.normal = []) : t.NormalLaw := by
  rw [State.NormalLaw, h]
  exact ⟨List.nodup_nil, nofun, by simp⟩

theorem slotOrder_of_waits {s : State} (h : s.access.waits = true) : s.slotOrder = none := by
  rw [State.slotOrder]
  cases ha : s.access <;> simp_all [Access.waits, Access.attempt]

theorem slotOrder_of_driving {s : State} {a : Attempt} (h : s.access = .driving a) : s.slotOrder = some a.order := by
  rw [State.slotOrder, h]; rfl

/-! ### The urgent lane -/

theorem not_mem_stateKeys {k : Byte} {l : List UrgentOrder} (hhold : .hold k ∉ l) (hfree : ∀ b, .free k b ∉ l) :
    k ∉ l.filterMap UrgentOrder.stateKey := fun hmem => by
  obtain ⟨x, hx, hxk⟩ := List.mem_filterMap.mp hmem
  cases x with
  | object i => cases hxk
  | hold i => cases hxk; exact hhold hx
  | free i b => cases hxk; exact hfree b hx

theorem not_mem_objectKeys {k : Byte} {l : List UrgentOrder} (h : .object k ∉ l) :
    k ∉ l.filterMap UrgentOrder.objectKey := fun hmem => by
  obtain ⟨x, hx, hxk⟩ := List.mem_filterMap.mp hmem
  cases x with
  | object i => cases hxk; exact h hx
  | hold i => cases hxk
  | free i b => cases hxk

/-- Every change keeps the law of the urgent lane. -/
theorem Change.keeps_urgentLaw {s t : State} (hc : Change w s t) (hlife : s.LifeLaw) (hslot : s.SlotLaw)
    (h : s.UrgentLaw) : t.UrgentLaw := by
  obtain ⟨hstate, hobject, hentry, hhold⟩ := id h
  have hclaimed (k : Byte) (c d : Claim) (hd : s.claimOf k = some d) (hnot : d ≠ .mine) :
      (setClaim k c s).UrgentLaw :=
    h.of_sublist (List.Sublist.refl _) (fun o _ ho => by rwa [isSome_entry_setClaim]) fun j _ hj => by
      rw [claimOf_setClaim_ne, hj]
      rintro rfl
      rw [hd] at hj
      exact hnot (Option.some.inj hj)
  cases hc with
  | quiet hview _ => exact h.congr (congrArg View.urgent hview) (congrArg View.table hview)
  | cleared hview => exact .of_empty (congrArg View.urgent hview)
  | mutes | goesOffline => exact .of_empty rfl
  | clocks =>
    exact h.of_sublist (List.Sublist.refl _) (fun o _ ho => by rwa [(claimOf_advanceClocks s o.key).2.2.2])
      fun k _ hk => (claimOf_advanceClocks s k).1 hk
  | entryMoves k f hf hmoves =>
    exact h.of_sublist (List.Sublist.refl _) (fun o _ ho => by rwa [isSome_entry_setEntry hf])
      (State.EntryMoves.keeps hf hmoves).1
  | askStarts k e normal he hfree _ _ =>
    exact (hclaimed k _ .free (claimOf_eq_some.mpr ⟨e, he, hfree⟩) nofun).congr rfl rfl
  | askSent k a x _ _ hclaim => exact (hclaimed k _ _ hclaim nofun).congr rfl rfl
  | stateOrder o ho hself hmine =>
    cases hst : s.station.transmits with
    | false => rw [requestState_silent hst]; exact h
    | true =>
      exact .place hstate hobject ho (by rw [requestState_transmits hst])
        (fun x hx => by rw [entry_congr (requestState_table _ _)]; exact hentry x hx)
        (by rwa [entry_congr (requestState_table _ _)])
        (fun k hk _ => by rw [claimOf_congr (requestState_table _ _)]; exact hhold k hk)
        fun k hk => by rw [claimOf_congr (requestState_table _ _)]; exact hmine k hk
  | objectOrder k hself =>
    rw [requestObject]
    split
    · next hcond =>
      have hnone : .object k ∉ s.urgent := fun hmem => by simp [(any_isObjectOf k _).mpr hmem] at hcond
      refine h.join (o := .object k) (List.perm_append_singleton _ _) rfl hself nofun (fun j hj => ?_) nofun
      cases hj
      exact not_mem_objectKeys hnone
    · exact h
  | holdRemoved k => exact h.of_sublist List.filter_sublist (fun _ _ ho => ho) fun _ _ hj => hj
  | released k hmine =>
    have htransmits : s.station.transmits = true := by rw [hlife.active_of_mine hmine]; rfl
    have hsome : (s.entry k).isSome = true := by
      obtain ⟨e, he, -⟩ := claimOf_eq_some.mp hmine
      rw [he]; rfl
    refine .place (o := .free k false) hstate hobject (by simp [UrgentOrder.isStateOf, UrgentOrder.key]) ?_
      (fun x hx => by rw [isSome_entry_releaseMine]; exact hentry x hx)
      (by rw [isSome_entry_releaseMine]; exact hsome)
      (fun j hj hne => by rw [claimOf_releaseMine (show j ≠ k from hne)]; exact hhold j hj) nofun
    rw [releaseMine, requestState_transmits (by simpa using htransmits)]
    simp
  | allocates k u habsent _ hu =>
    have hne (o : UrgentOrder) (ho : o ∈ s.urgent) : o.key ≠ k := by
      rintro rfl
      have := hentry o ho
      rw [habsent] at this; cases this
    exact h.of_sublist (List.Sublist.refl _) (fun o ho hsome => by rwa [entry_allocate hu (hne o ho)])
      fun j hj hclaim => (claimOf_allocate hu (hne _ hj)).trans hclaim
  | vacates k e he hidle =>
    have hne (o : UrgentOrder) (ho : o ∈ s.urgent) : o.key ≠ k := fun hk => by
      have hbusy := (busyKey_iff s k e).mpr (.inr (.inr (.inr (.inl ⟨o, ho, hk⟩))))
      rw [hidle] at hbusy; cases hbusy
    exact h.of_sublist (List.Sublist.refl _) (fun o ho hsome => by rwa [entry_vacate (hne o ho)])
      fun j hj hclaim => (claimOf_vacate (hne _ hj)).trans hclaim
  | begins =>
    have hcut {u : State} (hsub : u.urgent.Sublist s.urgent) (htable : u.table = s.table) : u.UrgentLaw :=
      h.of_sublist hsub (fun o _ ho => by rwa [entry_congr htable]) fun k _ hk => by rwa [claimOf_congr htable]
    rcases beginAttempt_cases s with ⟨pre, u, post, b, hs, -, -, heq⟩ | ⟨-, pre, n, post, b, -, -, -, heq⟩ |
        ⟨-, -, heq⟩ <;> rw [heq]
    · exact hcut (by rw [hs]; exact (List.sublist_cons_self u post).trans (List.sublist_append_right _ _)) rfl
    · exact .of_empty rfl
    · exact .of_empty rfl
  | handsBack a ha =>
    rcases handBack_cases a.order s with heq | ⟨u, ho, hback, heq⟩ | ⟨n, -, -, heq⟩ <;> rw [heq]
    · exact h.congr rfl rfl
    · rw [ho] at hback
      have hself : (s.entry u.key).isSome = true :=
        hslot.1 (.urgent u) u.key (by rw [slotOrder_of_driving ha, ho]) rfl
      refine h.join (o := u) (List.Perm.refl _) rfl hself (fun k hk => ?_) (fun k hk => ?_) ?_
      · cases u with
        | object j => cases hk
        | hold j => cases hk; exact not_mem_stateKeys hback.1 hback.2.1
        | free j c => cases hk; exact not_mem_stateKeys hback.1 hback.2
      · cases u with
        | object j => cases hk; exact not_mem_objectKeys hback
        | hold j => cases hk
        | free j c => cases hk
      · rintro k rfl
        exact claimOf_eq_some.mpr hback.2.2
    · exact h.congr rfl rfl
  | notice n _ => exact h.congr (by simp) (by simp)
  | presenceOrder => exact h.congr (by simp) (by simp)
  | postOrder p _ => exact h.congr (by rw [requestPost_eq]) (by rw [requestPost_eq])
  | worldMoves | noticeFetched | mailJoins | mailFetched | peerHears | peerGoes | listened | askRemoved | waits
  | drives | slotDone | faulted | established | leaves => exact h.congr rfl rfl

end Sys2Proof.Machine

namespace Sys2Proof.Machine
variable {w : Bool}

/-! ### The normal lane -/

theorem slotOrder_of_view {s t : State} (h : t.view = s.view) : t.slotOrder = s.slotOrder :=
  congrArg (fun v : View => v.access.attempt.map Attempt.order) h

theorem askKey_eq_some {o : NormalOrder} {k : Byte} : o.askKey = some k ↔ o = .ask k := by
  cases o <;> simp [NormalOrder.askKey]

theorem askKeys_of_no_ask {l : List NormalOrder} (h : ∀ k, .ask k ∉ l) : l.filterMap NormalOrder.askKey = [] := by
  rw [List.filterMap_eq_nil_iff]
  intro o ho
  cases hk : o.askKey with
  | none => rfl
  | some k => rw [askKey_eq_some] at hk; exact absurd (hk ▸ ho) (h k)

theorem askKeys_map_ask (ks : List Byte) : (ks.map NormalOrder.ask).filterMap NormalOrder.askKey = ks := by
  rw [List.filterMap_map]
  exact List.filterMap_some

theorem no_presence_in_asks (ks : List Byte) : (ks.map NormalOrder.ask).countP NormalOrder.isPresence = 0 := by
  rw [List.countP_eq_zero]
  intro o ho
  obtain ⟨k, -, rfl⟩ := List.mem_map.mp ho
  simp [NormalOrder.isPresence]

theorem no_post_in_asks (ks : List Byte) : (ks.map NormalOrder.ask).countP NormalOrder.isPost = 0 := by
  rw [List.countP_eq_zero]
  intro o ho
  obtain ⟨k, -, rfl⟩ := List.mem_map.mp ho
  simp [NormalOrder.isPost]

/-- An ask that is removed with its order. -/
theorem mem_removeAsk {k : Byte} {s : State} {o : NormalOrder} (h : o ∈ (removeAsk k s).normal) :
    o ∈ s.normal ∧ o ≠ .ask k := by
  obtain ⟨hmem, hnot⟩ := List.mem_filter.mp h
  refine ⟨hmem, ?_⟩
  rintro rfl
  simp [NormalOrder.isAskOf] at hnot

theorem any_isPresence_filter (l : List NormalOrder) :
    (l.filter fun o => !o.isPresence).any NormalOrder.isPresence = false := by
  rw [List.any_eq_false]
  intro o ho
  simpa using (List.mem_filter.mp ho).2

/-- Every change keeps the law of the normal lane. -/
theorem Change.keeps_normalLaw {s t : State} (hc : Change w s t) (htable : s.TableLaw) (hlife : s.LifeLaw)
    (hslot : s.SlotLaw) (h : s.NormalLaw) : t.NormalLaw := by
  obtain ⟨hasks, hheld, hone⟩ := id h
  have hclaimed (k : Byte) (c d : Claim) (hd : s.claimOf k = some d) (hnot : d ≠ .asking none) :
      (setClaim k c s).NormalLaw :=
    h.of_sublist (List.Sublist.refl _) fun j _ hj => by
      rw [claimOf_setClaim_ne, hj]
      rintro rfl
      rw [hd] at hj
      exact hnot (Option.some.inj hj)
  cases hc with
  | quiet hview _ => exact h.congr (congrArg View.normal hview) (congrArg View.table hview)
  | cleared hview => exact .of_empty (congrArg View.normal hview)
  | mutes | goesOffline => exact .of_empty rfl
  | clocks => exact h.of_sublist (List.Sublist.refl _) fun k _ hk => (claimOf_advanceClocks s k).2.1 hk
  | entryMoves k f hf hmoves => exact h.of_sublist (List.Sublist.refl _) (State.EntryMoves.keeps hf hmoves).2.1
  | askStarts k e normal he hfree _ hnormal =>
    have hclaim : s.claimOf k = some .free := claimOf_eq_some.mpr ⟨e, he, hfree⟩
    have hmoved := hclaimed k (.asking none) _ hclaim nofun
    rcases hnormal with rfl | ⟨-, rfl⟩
    · exact hmoved.congr rfl rfl
    · refine hmoved.join (o := .ask k) (List.perm_append_singleton _ _) rfl (fun j hj => ?_) nofun
      cases hj
      refine ⟨fun hmem => ?_, claimOf_setClaim_self hclaim _⟩
      rw [hheld k hmem] at hclaim
      cases hclaim
  | listened ks hst hnodup hclaims =>
    obtain ⟨-, -, hno, -⟩ := hlife
    have hnone : ∀ k, .ask k ∉ s.normal := ((anyAsk_eq_false_iff s).mp (hno hst)).1
    refine ⟨?_, fun k hk => ?_, ?_⟩
    · show ((s.normal ++ ks.map NormalOrder.ask).filterMap NormalOrder.askKey).Nodup
      rw [List.filterMap_append, askKeys_of_no_ask hnone, askKeys_map_ask, List.nil_append]
      exact hnodup htable
    · rcases List.mem_append.mp hk with hk | hk
      · exact absurd hk (hnone k)
      · obtain ⟨j, hj, hjk⟩ := List.mem_map.mp hk
        cases hjk
        exact hclaims k hj
    · show (s.normal ++ ks.map NormalOrder.ask).countP NormalOrder.isPresence ≤ 1
      rw [List.countP_append, no_presence_in_asks]
      exact hone
  | askSent k a x _ _ _ =>
    refine h.of_sublist (List.filter_sublist (l := s.normal)) fun j hj hclaim => ?_
    have hne : j ≠ k := fun he => (mem_removeAsk (s := s) hj).2 (by rw [he])
    exact (claimOf_setClaim_ne hne _ s).trans hclaim
  | askRemoved k => exact h.of_sublist List.filter_sublist fun _ _ hj => hj
  | released k hmine =>
    refine h.of_sublist (by simp [releaseMine]) fun j _ hj => ?_
    rw [claimOf_releaseMine, hj]
    rintro rfl
    rw [hmine] at hj
    cases hj
  | presenceOrder =>
    rw [requestPresence]
    split
    · next hcond =>
      refine h.join (o := .presence false) (List.perm_append_singleton _ _) rfl nofun fun _ => ?_
      simp only [Bool.and_eq_true, Bool.not_eq_true'] at hcond
      exact hcond.1.2
    · exact h
  | postOrder p _ =>
    rw [requestPost]
    split
    · exact h.join (o := .post p) (List.perm_append_singleton _ _) rfl nofun nofun
    · exact h
  | leaves limit _ _ =>
    have hcut : ({ s with normal := s.normal.filter fun o => !o.isPresence } : State).NormalLaw :=
      h.of_sublist List.filter_sublist fun _ _ hj => hj
    exact hcut.join (o := .presence true) (List.perm_append_singleton _ _) rfl nofun fun _ =>
      any_isPresence_filter s.normal
  | allocates k u habsent _ hu =>
    refine h.of_sublist (List.Sublist.refl _) fun j _ hclaim => (claimOf_allocate hu ?_).trans hclaim
    rintro rfl
    rw [State.claimOf, habsent] at hclaim
    cases hclaim
  | vacates k e he hidle =>
    refine h.of_sublist (List.Sublist.refl _) fun j hj hclaim => (claimOf_vacate ?_).trans hclaim
    rintro rfl
    have hbusy := (busyKey_iff s j e).mpr (.inr (.inr (.inr (.inr (.inl hj)))))
    rw [hidle] at hbusy
    cases hbusy
  | begins =>
    rcases beginAttempt_cases s with ⟨pre, u, post, b, -, -, -, heq⟩ | ⟨-, pre, n, post, b, hs, -, -, heq⟩ |
        ⟨-, -, heq⟩ <;> rw [heq]
    · exact h.congr rfl rfl
    · refine h.of_sublist ?_ fun k _ hk => hk
      rw [hs]
      exact (List.sublist_cons_self n post).trans (List.sublist_append_right _ _)
    · exact .of_empty rfl
  | handsBack a ha =>
    rcases handBack_cases a.order s with heq | ⟨u, -, -, heq⟩ | ⟨n, ho, hback, heq⟩ <;> rw [heq]
    · exact h.congr rfl rfl
    · exact h.congr rfl rfl
    · rw [ho] at hback
      refine h.join (o := n) (List.Perm.refl _) rfl ?_ fun hpresence => ?_
      · rintro k rfl
        obtain ⟨hnot, e, x, he, hclaim⟩ := hback
        refine ⟨hnot, claimOf_eq_some.mpr ⟨e, he, ?_⟩⟩
        cases x with
        | none => exact hclaim
        | some x =>
          have hunsent := hslot.2 k x (by rw [slotOrder_of_driving ha, ho])
          exact absurd (claimOf_eq_some.mpr ⟨e, he, hclaim⟩) hunsent
      · obtain ⟨b, rfl⟩ := (NormalOrder.isPresence_iff n).mp hpresence
        rw [← Bool.not_eq_true, any_isPresence]
        exact fun ⟨l, hl⟩ => hback l hl
  | notice n _ => exact h.congr (by simp) (by simp)
  | stateOrder o _ _ _ => exact h.congr (by simp) (by simp)
  | objectOrder k _ => exact h.congr (by simp) (by simp)
  | worldMoves | noticeFetched | mailJoins | mailFetched | peerHears | peerGoes | holdRemoved | waits
  | drives | slotDone | faulted | established => exact h.congr rfl rfl

/-! ### The posts -/

theorem slotPosts_none : slotPosts none = 0 := rfl

/-- An order that leaves the lane for the slot counts once. -/
theorem slotPosts_normal (n : NormalOrder) : slotPosts (some (.normal n)) = (if n.isPost then 1 else 0) := by
  cases n <;> rfl

/-- Every change keeps the bound of the pending posts. -/
theorem Change.keeps_pendingPosts {s t : State} (hc : Change w s t) (h : s.pendingPosts ≤ 4) : t.pendingPosts ≤ 4 := by
  have hsame {u : State} (hnormal : u.normal = s.normal) (hslot : u.slotOrder = s.slotOrder) : u.pendingPosts ≤ 4 :=
    pendingPosts_le h (by rw [hnormal]) (by rw [hslot])
  have hempty {u : State} (hnormal : u.normal = []) (haccess : u.access = .off) : u.pendingPosts ≤ 4 := by
    rw [pendingPosts_eq, hnormal, State.slotOrder, haccess]
    simp [Access.attempt, slotPosts]
  cases hc with
  | quiet hview _ =>
    exact hsame (congrArg View.normal hview) (slotOrder_of_view hview)
  | cleared hview => exact hempty (congrArg View.normal hview) (congrArg View.access hview)
  | mutes | goesOffline => exact hempty rfl rfl
  | askStarts k e normal _ _ _ hnormal =>
    rcases hnormal with rfl | ⟨-, rfl⟩
    · exact hsame rfl rfl
    · refine pendingPosts_le h ?_ le_rfl
      simp [List.countP_append, NormalOrder.isPost]
  | listened ks _ _ _ =>
    refine pendingPosts_le h ?_ le_rfl
    rw [List.countP_append, no_post_in_asks]
    rfl
  | askSent k a x _ _ _ => exact pendingPosts_le h (List.filter_sublist.countP_le) (Nat.zero_le _)
  | askRemoved k => exact pendingPosts_le h (List.filter_sublist.countP_le) le_rfl
  | slotDone => exact pendingPosts_le h le_rfl (Nat.zero_le _)
  | presenceOrder =>
    rw [requestPresence]
    split
    · refine pendingPosts_le h ?_ le_rfl
      simp [List.countP_append, NormalOrder.isPost]
    · exact h
  | postOrder p hroom =>
    rw [requestPost]
    split
    · rw [pendingPosts_eq] at hroom ⊢
      simp only [List.countP_append, List.countP_singleton, NormalOrder.isPost, State.slotOrder] at hroom ⊢
      simp only [if_true]
      omega
    · exact h
  | leaves limit _ _ =>
    refine pendingPosts_le h ?_ le_rfl
    rw [List.countP_append]
    exact List.filter_sublist.countP_le
  | waits a _ ha => exact pendingPosts_le h le_rfl (by rw [slotOrder_of_waits (s := { s with access := a }) ha]; exact Nat.zero_le _)
  | drives a b ha hb => exact hsame rfl (by rw [slotOrder_of_driving ha, ← hb]; rfl)
  | begins hwaits _ =>
    have hnone := slotOrder_of_waits hwaits
    rcases beginAttempt_cases s with ⟨pre, u, post, b, -, -, -, heq⟩ | ⟨-, pre, n, post, b, hs, -, -, heq⟩ |
        ⟨-, -, heq⟩ <;> rw [heq]
    · exact pendingPosts_le h le_rfl (Nat.zero_le _)
    · have hnew : slotPosts (some (.normal n)) = if n.isPost then 1 else 0 := slotPosts_normal n
      rw [pendingPosts_eq, hs, hnone, List.countP_append, List.countP_cons] at h
      rw [pendingPosts_eq, slotOrder_of_driving rfl]
      simp only [State.newAttempt, hnew]
      omega
    · exact pendingPosts_le h (Nat.zero_le _) (Nat.zero_le _)
  | handsBack a ha =>
    rcases handBack_cases a.order s with heq | ⟨u, -, -, heq⟩ | ⟨n, ho, -, heq⟩ <;> rw [heq]
    · exact pendingPosts_le h le_rfl (Nat.zero_le _)
    · exact pendingPosts_le h le_rfl (Nat.zero_le _)
    · rw [pendingPosts_eq, slotOrder_of_driving ha, ho, slotPosts_normal] at h
      rw [pendingPosts_eq, slotOrder_of_waits rfl, slotPosts_none, List.countP_cons]
      exact h
  | established =>
    exact pendingPosts_le h le_rfl (Nat.zero_le _)
  | released k _ => exact hsame (by simp [releaseMine]) (by simp [releaseMine, State.slotOrder])
  | notice n _ => exact hsame (by simp) (by simp [State.slotOrder])
  | stateOrder o _ _ _ => exact hsame (by simp) (by simp [State.slotOrder])
  | objectOrder k _ => exact hsame (by simp) (by simp [State.slotOrder])
  | worldMoves | noticeFetched | mailJoins | mailFetched | peerHears | peerGoes | holdRemoved | faulted | clocks
  | entryMoves | allocates | vacates => exact hsame rfl rfl

/-! ### The attempt slot -/

/-- Every change keeps the law of the slot. -/
theorem Change.keeps_slotLaw {s t : State} (hc : Change w s t) (hurgent : s.UrgentLaw) (hnormal : s.NormalLaw)
    (h : s.SlotLaw) : t.SlotLaw := by
  cases hc with
  | quiet hview _ =>
    exact h.congr (slotOrder_of_view hview) (congrArg View.table hview)
  | cleared hview =>
    have haccess : t.access = .off := congrArg View.access hview
    exact .of_empty (by rw [State.slotOrder, haccess]; rfl)
  | mutes | goesOffline | established | slotDone | askSent => exact .of_empty rfl
  | handsBack => exact .of_empty (by rw [handBack_eq]; rfl)
  | waits a _ ha => exact .of_empty (slotOrder_of_waits ha)
  | drives a b ha hb => exact h.congr (by rw [slotOrder_of_driving ha, ← hb]; rfl) rfl
  | clocks =>
    exact h.of_same rfl (fun o k _ _ hk => by rwa [(claimOf_advanceClocks s k).2.2.2]) fun k x _ hk =>
      (claimOf_advanceClocks s k).2.2.1 x hk
  | entryMoves k f hf hmoves =>
    exact h.of_same rfl (fun o j _ _ hj => by rwa [isSome_entry_setEntry hf]) fun j x _ hj =>
      (State.EntryMoves.keeps hf hmoves).2.2 j x hj
  | askStarts k e normal he hfree _ _ =>
    refine h.of_same rfl (fun o j _ _ hj => (isSome_entry_setClaim k (.asking none) s j).trans hj) fun j x _ hj => ?_
    by_cases hk : j = k
    · subst hk
      have := hj.symm.trans (claimOf_setClaim_self (claimOf_eq_some.mpr ⟨e, he, hfree⟩) (.asking none))
      cases this
    · exact ⟨x, (claimOf_setClaim_ne hk (.asking none) s).symm.trans hj⟩
  | released k hmine =>
    refine h.of_same (by simp [releaseMine, State.slotOrder])
      (fun o j _ _ hj => by rwa [isSome_entry_releaseMine]) fun j x _ hj => ?_
    by_cases hk : j = k
    · subst hk
      rw [releaseMine, claimOf_congr (requestState_table _ _), claimOf_setWant, claimOf_setClaim_self hmine] at hj
      cases hj
    · exact ⟨x, (claimOf_releaseMine hk s).symm.trans hj⟩
  | allocates k u habsent _ hu =>
    have hne {o : Order} {j : Byte} (ho : s.slotOrder = some o) (hk : o.key = some j) : j ≠ k := by
      rintro rfl
      have := h.1 o j ho hk
      rw [habsent] at this
      cases this
    exact h.of_same rfl (fun o j ho hk hj => by rwa [entry_allocate hu (hne ho hk)]) fun j x ho hj =>
      ⟨x, (claimOf_allocate hu (hne ho rfl)).symm.trans hj⟩
  | vacates k e _ hidle =>
    have hne {o : Order} {j : Byte} (ho : s.slotOrder = some o) (hk : o.key = some j) : j ≠ k := by
      rintro rfl
      have hbusy : s.busyKey j e = true := by
        rw [busyKey_iff]
        cases o with
        | urgent u => cases hk; exact .inr (.inr (.inr (.inr (.inr (.inr ⟨u, ho, rfl⟩)))))
        | normal n =>
          rw [show n = .ask j from askKey_eq_some.mp hk] at ho
          exact .inr (.inr (.inr (.inr (.inr (.inl ho)))))
      rw [hidle] at hbusy
      cases hbusy
    exact h.of_same rfl (fun o j ho hk hj => by rwa [entry_vacate (hne ho hk)]) fun j x ho hj =>
      ⟨x, (claimOf_vacate (hne ho rfl)).symm.trans hj⟩
  | begins =>
    rcases beginAttempt_cases s with ⟨pre, u, post, b, hs, -, -, heq⟩ | ⟨-, pre, n, post, b, hs, -, -, heq⟩ |
        ⟨-, -, heq⟩ <;> rw [heq]
    · have hu : (s.entry u.key).isSome = true := hurgent.2.2.1 u (by rw [hs]; simp)
      refine ⟨fun o k ho hk => ?_, fun k x ho => by cases ho⟩
      cases ho
      cases hk
      exact hu
    · have hn (k : Byte) (hk : n = .ask k) : s.claimOf k = some (.asking none) :=
        hnormal.2.1 k (by rw [hs, ← hk]; simp)
      refine ⟨fun o k ho hk => ?_, fun k x ho hx => ?_⟩
      · cases ho
        obtain ⟨e, he, -⟩ := claimOf_eq_some.mp (hn k (askKey_eq_some.mp hk))
        exact Option.isSome_iff_exists.mpr ⟨e, he⟩
      · simp only [State.slotOrder, Access.attempt, State.newAttempt, Option.map_some, Option.some.injEq,
          Order.normal.injEq] at ho
        cases hx.symm.trans (hn k ho)
    · exact .of_empty rfl
  | postOrder p _ => exact h.congr (by rw [requestPost_eq]; rfl) (by rw [requestPost_eq])
  | notice n _ => exact h.congr (by simp [State.slotOrder]) (by simp)
  | stateOrder o _ _ _ => exact h.congr (by simp [State.slotOrder]) (by simp)
  | objectOrder k _ => exact h.congr (by simp [State.slotOrder]) (by simp)
  | presenceOrder => exact h.congr (by simp [State.slotOrder]) (by simp)
  | worldMoves | noticeFetched | mailJoins | mailFetched | peerHears | peerGoes | holdRemoved | askRemoved | faulted
  | listened | leaves => exact h.congr rfl rfl

/-! ### The lanes together -/

/-- Every change keeps the laws of the lanes. -/
theorem Change.keeps_laneLaw {s t : State} (hc : Change w s t) (htable : s.TableLaw) (hlife : s.LifeLaw)
    (h : s.LaneLaw) : t.LaneLaw := by
  rw [laneLaw_iff] at h ⊢
  obtain ⟨hurgent, hnormal, hposts, hslot⟩ := h
  exact ⟨hc.keeps_urgentLaw hlife hslot hurgent, hc.keeps_normalLaw htable hlife hslot hnormal,
    hc.keeps_pendingPosts hposts, hc.keeps_slotLaw hurgent hnormal hslot⟩

/-- A state with empty lanes and an empty slot keeps their laws. -/
theorem laneLaw_of_empty {t : State} (hu : t.urgent = []) (hn : t.normal = []) (hs : t.slotOrder = none) :
    t.LaneLaw := by
  rw [laneLaw_iff]
  exact ⟨.of_empty hu, .of_empty hn, by rw [pendingPosts_eq, hn, hs]; simp [slotPosts], .of_empty hs⟩

theorem State.LaneLaw.congr {s t : State} (h : s.LaneLaw) (htable : t.table = s.table) (hurgent : t.urgent = s.urgent)
    (hnormal : t.normal = s.normal) (haccess : t.access = s.access) : t.LaneLaw := by
  have hslot : t.slotOrder = s.slotOrder := congrArg (fun a : Access => a.attempt.map Attempt.order) haccess
  rw [laneLaw_iff] at h ⊢
  obtain ⟨hu, hn, hposts, hs⟩ := h
  exact ⟨hu.congr hurgent htable, hn.congr hnormal htable,
    pendingPosts_le hposts (by rw [hnormal]) (by rw [hslot]), hs.congr hslot htable⟩

theorem step_keeps_laneLaw {s t : State} (htable : s.TableLaw) (hlife : s.LifeLaw) (hlane : s.LaneLaw)
    (h : step s = .next t) : t.LaneLaw :=
  (step_keeps (P := fun s => s.TableLaw ∧ s.LifeLaw ∧ s.LaneLaw)
    (fun _ _ hview _ ht => ⟨ht.1.congr (congrArg View.table hview) (congrArg View.ownAddr hview),
      ht.2.1.congr (congrArg View.table hview) (congrArg View.station hview) (congrArg View.access hview)
        (congrArg View.urgent hview) (congrArg View.normal hview), ht.2.2.congr (congrArg View.table hview)
        (congrArg View.urgent hview) (congrArg View.normal hview) (congrArg View.access hview)⟩)
    (fun _ _ hc hs => ⟨hc.keeps_tableLaw hs.1, hc.keeps_lifeLaw hs.1 hs.2.1, hc.keeps_laneLaw hs.1 hs.2.1 hs.2.2⟩)
    (fun _ _ _ => ⟨.of_vacant rfl, lifeLaw_of_clear rfl rfl rfl rfl fun e he => absurd he (not_mem_vacant rfl e),
      laneLaw_of_empty rfl rfl rfl⟩)
    ⟨htable, hlife, hlane⟩ h).2.2

theorem tableKeys_length_le (t : List (Option Entry)) : (tableKeys t).length ≤ t.length := by
  induction t with
  | nil => exact le_rfl
  | cons x t ih => cases x <;> simp [tableKeys] <;> omega

/-- Keys that each have an entry, none twice, are at most as many as the places of the table. -/
theorem State.TableLaw.keys_le {s : State} (h : s.TableLaw) {ks : List Byte} (hnodup : ks.Nodup)
    (hks : ∀ k ∈ ks, (s.entry k).isSome = true) : ks.length ≤ 16 := by
  obtain ⟨hlength, -, -⟩ := h
  calc ks.length ≤ (tableKeys s.table).length :=
        (hnodup.subperm fun k hk => (findEntry_isSome k s.table).mp (hks k hk)).length_le
    _ ≤ 16 := hlength ▸ tableKeys_length_le _

theorem length_urgent_eq (l : List UrgentOrder) :
    l.length = (l.filterMap UrgentOrder.stateKey).length + (l.filterMap UrgentOrder.objectKey).length := by
  induction l with
  | nil => rfl
  | cons o l ih =>
    cases o <;> simp [UrgentOrder.stateKey, UrgentOrder.objectKey, List.filterMap_cons, ih] <;> omega

theorem length_normal_eq (l : List NormalOrder) :
    l.length = (l.filterMap NormalOrder.askKey).length + l.countP NormalOrder.isPresence +
      l.countP NormalOrder.isPost := by
  induction l with
  | nil => rfl
  | cons o l ih =>
    cases o <;>
      simp [NormalOrder.askKey, NormalOrder.isPresence, NormalOrder.isPost, List.filterMap_cons, List.countP_cons, ih] <;>
      omega

theorem key_of_stateKey {o : UrgentOrder} {k : Byte} (h : o.stateKey = some k) : o.key = k := by
  cases o <;> cases h <;> rfl

theorem key_of_objectKey {o : UrgentOrder} {k : Byte} (h : o.objectKey = some k) : o.key = k := by
  cases o with
  | object j => exact Option.some.inj h
  | _ => cases h

/-- The laws bound the lanes. -/
theorem State.LaneLaw.bounds {s : State} (htable : s.TableLaw) (h : s.LaneLaw) :
    s.urgent.length ≤ 32 ∧ s.normal.length ≤ 21 := by
  rw [laneLaw_iff] at h
  obtain ⟨⟨hstate, hobject, hentry, -⟩, ⟨hasks, hheld, hone⟩, hposts, -⟩ := h
  have hstates := htable.keys_le hstate fun k hk => by
    obtain ⟨o, ho, hok⟩ := List.mem_filterMap.mp hk
    exact key_of_stateKey hok ▸ hentry o ho
  have hobjects := htable.keys_le hobject fun k hk => by
    obtain ⟨o, ho, hok⟩ := List.mem_filterMap.mp hk
    exact key_of_objectKey hok ▸ hentry o ho
  have hasked := htable.keys_le hasks fun k hk => by
    obtain ⟨o, ho, hok⟩ := List.mem_filterMap.mp hk
    obtain ⟨e, he, -⟩ := claimOf_eq_some.mp (hheld k (askKey_eq_some.mp hok ▸ ho))
    exact Option.isSome_iff_exists.mpr ⟨e, he⟩
  rw [pendingPosts_eq] at hposts
  rw [length_urgent_eq, length_normal_eq]
  omega

/-- Settles O56: the laws of the lanes rest on those of the table and of the bond, with which every change keeps
them. -/
theorem stepKeepsLaneLaw : Obligations.StepKeepsLaneLaw :=
  ⟨fun _ _ => step_keeps_laneLaw, fun _ => State.LaneLaw.bounds⟩

end Sys2Proof.Machine

namespace Sys2Proof.Machine

/-! ### Steps, reset and the rows while RESET_N is low -/

/-- Settles O1: the two branches of `step`. -/
theorem stepTakesTheFrontCommand : Obligations.StepTakesTheFrontCommand :=
  ⟨fun c rest s h => by simp only [step, h], fun s h => by simp only [step, h]⟩

/-- Settles O3: after reset the table, the Roster, the lanes and the queues are empty and the Access Engine is off. -/
theorem resetSatisfiesTheLaws : Obligations.ResetSatisfiesTheLaws :=
  ⟨.of_vacant rfl, lifeLaw_of_clear rfl rfl rfl rfl fun e he => absurd he (not_mem_vacant rfl e),
    laneLaw_of_empty rfl rfl rfl, .inl ⟨Nat.zero_le _, rfl⟩, ⟨Nat.zero_le _, nofun⟩,
    stationLaw_of_clear rfl rfl rfl rfl, .of_vacant rfl, nofun, nofun⟩

/-- While RESET_N is low no row but its own edges has an effect (R146). -/
theorem exec_in_reset {s : State} (h : s.inReset = true) {c : Instr} (hc : ∀ e, c ≠ .hardReset e) :
    exec c s = .next s := by
  cases c with
  | hardReset e => exact absurd rfl (hc e)
  | _ => exact live_held h

theorem tick_in_reset {s : State} (h : s.inReset = true) : tick s = { s with line := s.line.drop 1 } := by
  rw [tick, if_pos h]

/-- Settles O4: both edges give the initial state, held or started; every other row is `live`. -/
theorem hardResetStartsEveryBlock : Obligations.HardResetStartsEveryBlock :=
  fun _ _ _ =>
    ⟨⟨_, rfl, rfl, rfl, rfl, rfl, rfl⟩, ⟨_, rfl, rfl, rfl, rfl, rfl⟩,
      fun h => ⟨fun _ hc => exec_in_reset h hc, tick_in_reset h⟩⟩

/-! ### The status bytes -/

/-- Status byte 0 as six fields below each other (12.2). -/
theorem status0_fields (s : State) :
    s.status0.getLsbD 7 = s.result.isSome ∧ s.status0.getLsbD 6 = !s.notices.isEmpty ∧
      s.status0.getLsbD 5 = !s.mailbox.isEmpty ∧ s.status0 &&& 7 = s.station.code := by
  simp only [State.status0]
  generalize s.result.isSome = a
  generalize (!s.notices.isEmpty) = b
  generalize (!s.mailbox.isEmpty) = c
  generalize s.refused = d
  generalize s.portError = e
  generalize s.station = g
  cases a <;> cases b <;> cases c <;> cases d <;> cases e <;> cases g <;> decide

/-- Status byte 1 as two fields (12.2): a queue that keeps its law fits the lower one. -/
theorem status1_fields {s : State} (h : s.notices.length ≤ 32) :
    (s.status1 >>> 6).toNat = s.monitor.code.toNat ∧ (s.status1 &&& 0x3F).toNat = s.notices.length := by
  have hcode : s.monitor.code.toNat ≤ 3 := by cases s.monitor <;> simp [Monitor.code]
  have hbyte : s.status1.toNat = 64 * s.monitor.code.toNat + s.notices.length := by
    rw [State.status1, natByte, BitVec.toNat_ofNat]
    omega
  constructor
  · rw [BitVec.toNat_ushiftRight, hbyte, Nat.shiftRight_eq_div_pow]
    omega
  · have hmask : (0x3F : Byte).toNat = 2 ^ 6 - 1 := rfl
    rw [BitVec.toNat_and, hbyte, hmask, Nat.and_two_pow_sub_one_eq_mod]
    omega

theorem attention_iff {s : State} (h : s.inReset = false) :
    s.attention = true ↔ s.result ≠ none ∨ s.notices ≠ [] ∨ s.mailbox ≠ [] := by
  rw [State.attention, h]
  cases s.result <;> cases s.notices <;> cases s.mailbox <;> simp

theorem sdoDriven_iff {s : State} (h : s.inReset = false) : s.sdoDriven = true ↔ s.port ≠ .none := by
  rw [State.sdoDriven, h]
  cases s.port <;> simp

/-! ### Transactions without a response -/

theorem responseOf_status (s : State) : s.responseOf .status = ([], false) := rfl

/-- A transaction that offers no record removes none. -/
theorem removeClocked_nothing (tx : Transaction) (r : List Byte) (n : Nat) (s : State) :
    removeClocked tx r false n s = s := rfl

/-- A STATUS transaction that began with the fall of SEL_N ends: the flags its bytes showed go with them (R169). -/
theorem transact_status_selected {s : State} {a b : Byte} (hport : s.port = .selected a b) (n : Nat) :
    transact .status (.rise n) s =
      { s with
        port := .none, sdo := ([a, b] ++ List.replicate n 0).take n
        refused := s.refused && !(a.getLsbD 4 && decide (2 ≤ n))
        portError := s.portError && !(a.getLsbD 3 && decide (2 ≤ n)) } := by
  have hselect : selectPort s = s := by simp only [selectPort, hport]
  rcases n with _ | n
  · simp [transact, State.portBusy, hport, hselect, raiseSelect, sentBytes]
  · have htake : takeCode .status s = { s with port := .running .status a b [] false } := by
      simp only [takeCode, hport, responseOf_status]
      rfl
    have hrise : transact .status (.rise (n + 1)) s =
        raiseSelect (n + 1) { s with port := .running .status a b [] false } := by
      simp [transact, State.portBusy, hport, hselect, htake]
    rw [hrise, raiseSelect_running rfl, removeClocked_nothing]
    simp [endTransaction, clearSticky, Transaction.isUnknown, stickyAfter, sentBytes]

/-- Settles O5: the fields of the status bytes, and STATUS in one row or from the fall on. -/
theorem statusIsTakenAtTheFall : Obligations.StatusIsTakenAtTheFall := by
  refine ⟨fun s h => ⟨attention_iff h, sdoDriven_iff h⟩, fun s hnotices => ?_⟩
  obtain ⟨hresult, hqueue, hmail, hstation⟩ := status0_fields s
  obtain ⟨hmonitor, hlength⟩ := status1_fields hnotices
  refine ⟨hresult, hqueue, hmail, status0_refused s, status0_portError s, ?_, ?_, hlength,
    fun hreset hfollows => ⟨fun hport => ⟨?_, fun n => ?_⟩, fun a b n hport => ?_⟩⟩
  · rw [hstation]
    cases s.station <;> rfl
  · rw [hmonitor]
    cases s.monitor <;> rfl
  · have hselect : transact .status .select s = { s with port := .selected s.status0 s.status1 } := by
      simp [transact, State.portBusy, hport, selectPort]
    exact (live_eq hreset).trans (hfollows.next_eq hselect rfl rfl rfl)
  · exact live_rise_idle ⟨hreset, hport⟩ hfollows rfl (responseOf_status s) n
  · exact (live_eq hreset).trans (hfollows.next_eq (transact_status_selected hport n) rfl rfl rfl)

/-! ### Unknown codes -/

/-- A whole transaction of an unknown code (R167): its error is set after the flags shown were taken. -/
theorem transact_unknown_idle {s : State} (hport : s.port = .none) (c : Byte) (n : Nat) :
    transact (.unknown c) (.rise n) s =
      if n = 0 then { s with sdo := [] }
      else { s.readOut [] n with portError := true, counters := s.counters.bump .portErrors } := by
  have hfree : s.portBusy (.unknown c) = false := by simp [State.portBusy, hport]
  rcases n with _ | n
  · cases s
    simp_all [transact, raiseSelect, selectPort, sentBytes]
  · have htake : takeCode (.unknown c) (selectPort s) =
        { s with
          port := .running (.unknown c) s.status0 s.status1 [] false, portError := true
          counters := s.counters.bump .portErrors } := by
      simp only [takeCode, selectPort, hport]
      rfl
    have hrise : transact (.unknown c) (.rise (n + 1)) s =
        raiseSelect (n + 1) (takeCode (.unknown c) (selectPort s)) := by
      simp [transact, hfree, hport]
    rw [hrise, htake, raiseSelect_running rfl, removeClocked_nothing, if_neg (Nat.succ_ne_zero n)]
    simp only [endTransaction, clearSticky, Transaction.isUnknown, status0_refused, stickyAfter_shown, State.readOut,
      State.clockedOut, sentBytes, ← hport]
    rfl

theorem unknown_transaction_code {c : Byte} (h : c.toNat < 0xA0 ∨ 0xA4 < c.toNat) :
    knownTransactionCode c = false := by
  have hne (d : Byte) (h0 : 0xA0 ≤ d.toNat) (h4 : d.toNat ≤ 0xA4) : c ≠ d := by
    rintro rfl
    omega
  simp [knownTransactionCode, hne, codeStatus, codeCommand, codeFetchResult, codeFetchNotice, codeFetchMail]

theorem hostRow_unknown {c : Byte} (h : knownTransactionCode c = false) (rest : List Byte) :
    hostRow (c :: rest) = some (.unknownTransactionCode c (.rise (rest.length + 1))) := by
  simp only [knownTransactionCode, Bool.or_eq_false_iff, beq_eq_false_iff_ne] at h
  obtain ⟨⟨⟨⟨hstatus, hcommand⟩, hresult⟩, hnotice⟩, hmail⟩ := h
  simp only [hostRow, hstatus, hcommand, hresult, hnotice, hmail, if_false]

/-- A command code that is none of 12.3 differs from each of them. -/
theorem code_ne_of_unknown {code : Byte} (h : code.toNat = 0 ∨ 11 < code.toNat) (d : Byte) (h1 : 1 ≤ d.toNat)
    (h11 : d.toNat ≤ 11) : code ≠ d := by
  rintro rfl
  omega

theorem hostRow_unknown_command {code : Byte} (h : code.toNat = 0 ∨ 11 < code.toNat) (rest : List Byte) :
    hostRow (0xA1 :: code :: rest) = some (.unknownCommand code rest) := by
  have hne := code_ne_of_unknown h
  have hcommand : hostRow (0xA1 :: code :: rest) = some (commandRow (code :: rest)) := rfl
  rw [hcommand]
  simp [commandRow, hne]

/-- Settles O6: an unknown code is noted when it is taken; the rows of the known ones are read off the table. -/
theorem unknownCodeSetsPortError : Obligations.UnknownCodeSetsPortError := by
  refine ⟨fun s c n hidle hfollows hc => ?_, rfl, rfl, fun rest => ⟨rfl, rfl, rfl, rfl,
    fun c hc => hostRow_unknown (unknown_transaction_code hc) rest, rfl, rfl, rfl, rfl, rfl, rfl, rfl, rfl, rfl, rfl, rfl,
    fun code hcode => hostRow_unknown_command hcode rest⟩⟩
  obtain ⟨hreset, hport⟩ := hidle
  refine (live_eq hreset).trans (hfollows.next_eq ?_ ?_ ?_ ?_)
  · rw [unknown_transaction_code hc]
    exact transact_unknown_idle hport c n
  all_goals split <;> rfl

end Sys2Proof.Machine

namespace Sys2Proof.Machine

/-! ### Records and their codes -/

/-- The result codes and the codes of the station states (12.4). -/
theorem record_codes :
    (∀ code ∈ ([(.done, 1), (.queuedWait, 2), (.alreadyHeld, 3), (.heldByPeer, 4), (.busyKey, 5), (.tableFull, 6),
        (.badKey, 7), (.notHeld, 8), (.notWatched, 9), (.queueFull, 10), (.wrongState, 11), (.badConfig, 12),
        (.noAddress, 13), (.addressInUse, 14), (.badLength, 15), (.unknownCommand, 16)] : List (ResultCode × Nat)),
      code.1.byte = BitVec.ofNat 8 code.2) ∧
    ∀ station ∈ ([(.unconfigured, 0), (.listening, 1), (.active, 2), (.leaving, 3), (.offline, 4), (.mute, 5)] :
        List (StationState × Nat)), station.1.code = BitVec.ofNat 8 station.2 := by
  decide

theorem resultRecord_eq (code : ResultCode) (command : Byte) (station : StationState) (fields : List Byte) :
    resultRecord code command station fields =
      (code.byte :: BitVec.ofNat 8 (fields.length + 5) :: command :: station.code :: fields) ++
        [crc8 (code.byte :: BitVec.ofNat 8 (fields.length + 5) :: command :: station.code :: fields)] := rfl

/-! ### Commands of a wrong length -/

theorem length_take_ne {fields : List Byte} {n : Nat} (hn : n < 31) (h : fields.length ≠ n) :
    (fields.take 31).length ≠ n := by
  rw [List.length_take]
  omega

theorem takeEstablish_badLength {fields : List Byte} (h : fields.length ≠ 5) (s : State) :
    takeEstablish fields s = badLength cmdEstablish s := by
  unfold takeEstablish
  split
  · exact absurd rfl h
  · rfl

theorem takeAsk_badLength {fields : List Byte} (h : fields.length ≠ 2) (s : State) :
    takeAsk fields s = badLength cmdAsk s := by
  unfold takeAsk
  split
  · exact absurd rfl h
  · rfl

theorem takeKeyCommand_badLength {fields : List Byte} (h : fields.length ≠ 1) (code : Byte)
    (owner : Byte → State → State) (s : State) : takeKeyCommand code owner fields s = badLength code s := by
  unfold takeKeyCommand
  split
  · exact absurd rfl h
  · rfl

theorem takeBareCommand_badLength {fields : List Byte} (h : fields.length ≠ 0) (code : Byte) (owner : State → State)
    (s : State) : takeBareCommand code owner fields s = badLength code s := by
  unfold takeBareCommand
  split
  · exact absurd rfl h
  · rfl

theorem takePostCommand_badLength {fields : List Byte} (h : fields.length < 3) (s : State) :
    takePostCommand fields s = badLength cmdPost s := by
  unfold takePostCommand
  split
  · simp only [List.length_cons] at h
    omega
  · rfl

/-- A command whose owner gives an answer and nothing else: a refusal (R147, R170). -/
theorem live_command_answered {s : State} (h : s.TakesCommands) (hfollows : s.AccessFollows) {code : Byte}
    {fields : List Byte} {r : ResultCode} {command : Byte} {answers : List Byte}
    (howner : ownerTakes code (fields.take 31) (s.clocked (fields.length + 1)) =
      answer r command answers (s.clocked (fields.length + 1))) :
    live (commandTransaction (code :: fields)) s =
      .next ((s.clocked (fields.length + 1)).answered r command answers) :=
  (live_eq h.1.1).trans (hfollows.next_eq ((commandTransaction_takes h code fields).trans howner) rfl rfl rfl)

/-- An unknown command code goes to no owner. -/
theorem ownerTakes_unknown {code : Byte} (h : code.toNat = 0 ∨ 11 < code.toNat) (fields : List Byte) (s : State) :
    ownerTakes code fields s = answer .unknownCommand code [] s := by
  have hne := code_ne_of_unknown h
  simp [ownerTakes, hne, cmdEstablish, cmdAsk, cmdRelease, cmdWatch, cmdUnwatch, cmdQuery, cmdRoster, cmdPost, cmdLeave,
    cmdRestart, cmdCounters]

/-- A COMMAND transaction without a record (R170). -/
theorem commandTransaction_empty {s : State} (hport : s.port = .none) :
    commandTransaction [] s =
      { s with sdo := [s.status0], portError := true, counters := s.counters.bump .portErrors } := by
  have hsticky (flag shown : Bool) : stickyAfter flag shown (decide (2 ≤ 0 + 1)) false = flag := by
    cases flag <;> cases shown <;> rfl
  simp only [commandTransaction, hport, endCommand, clearSticky, List.length_nil, takeRecord, List.take_nil, hsticky,
    count]
  rw [← hport]
  rfl

/-- Settles O10: the codes are those of the tables; a record is judged by its length before its owner sees it. -/
theorem commandRecordIsJudgedInSteps : Obligations.CommandRecordIsJudgedInSteps := by
  refine ⟨fun code station command fields hcode hstation _ => ?_, ⟨rfl, fun _ _ => rfl, fun _ => rfl, rfl, fun _ => rfl⟩,
    fun n a b => ⟨by simp [natByte], by simpa [addrByte] using lt_trans a.isLt (by decide), by cases b <;> rfl, rfl⟩,
    fun s hidle hfollows => ⟨?_, fun r hr => ⟨fun code fields => ?_, fun code fields c hc => ?_⟩⟩,
    fun s fields htakes hfollows => ⟨fun code hcode => ?_, fun hn => ?_, fun hn => ?_, fun hn => ⟨?_, ?_, ?_, ?_⟩,
      fun hn => ?_, fun hn => ?_⟩⟩
  · rw [resultRecord_eq, record_codes.1 code hcode, record_codes.2 station hstation]
  · exact (live_eq hidle.1).trans (hfollows.next_eq (commandTransaction_empty hidle.2) rfl rfl rfl)
  · exact live_command_refused hidle hr hfollows code fields
  · simp only [List.mem_cons, List.not_mem_nil, or_false] at hc
    rcases hc with rfl | rfl | rfl | rfl | rfl | rfl | rfl | rfl | rfl | rfl | rfl | rfl <;>
      exact live_command_refused hidle hr hfollows _ fields
  · exact live_command_answered htakes hfollows (ownerTakes_unknown hcode _ _)
  · exact live_command_answered htakes hfollows (takeEstablish_badLength (length_take_ne (by decide) hn) _)
  · exact live_command_answered htakes hfollows (takeAsk_badLength (length_take_ne (by decide) hn) _)
  · exact live_command_answered htakes hfollows (takeKeyCommand_badLength (length_take_ne (by decide) hn) cmdRelease _ _)
  · exact live_command_answered htakes hfollows (takeKeyCommand_badLength (length_take_ne (by decide) hn) cmdWatch _ _)
  · exact live_command_answered htakes hfollows (takeKeyCommand_badLength (length_take_ne (by decide) hn) cmdUnwatch _ _)
  · exact live_command_answered htakes hfollows (takeKeyCommand_badLength (length_take_ne (by decide) hn) cmdQuery _ _)
  · exact live_command_answered htakes hfollows
      (takePostCommand_badLength (Nat.lt_of_le_of_lt (List.length_take_le' _ _) hn) _)
  · have hlength : (fields.take 31).length ≠ 0 := length_take_ne (by decide) (by simpa using hn)
    exact ⟨live_command_answered htakes hfollows (takeBareCommand_badLength hlength cmdRoster _ _),
      live_command_answered htakes hfollows (takeBareCommand_badLength hlength cmdLeave _ _),
      live_command_answered htakes hfollows (takeBareCommand_badLength hlength cmdRestart _ _),
      live_command_answered htakes hfollows (takeBareCommand_badLength hlength cmdCounters _ _)⟩

/-! ### An accepted ESTABLISH -/

/-- With empty lanes the first PRESENCE of the station joins (R121, R149). -/
theorem establishAccepted_eq {s : State} (hnormal : s.normal = []) (c : Configuration) :
    establishAccepted c s =
      { s with
        config := some c, station := .listening
        roster := s.roster.map fun place => place.filter fun e => e.age < ms (16 * c.silenceUnit.toNat)
        own := { s.own with silence := some 0 }
        driveFaults := 0, normal := [.presence false], access := .empty } := by
  simp [establishAccepted, requestPresence, hnormal, StationState.transmits, State.slotPresence, State.slotOrder,
    Access.attempt, dropAged]

/-- Settles O12: the checks pass in their order, and the PRESENCE in the lane sets the condition. -/
theorem establishConfiguresAndListens : Obligations.EstablishConfiguresAndListens := by
  intro s su w retry mask bcast htakes hst haddr huse hurgent hnormal hrange
  have hconfig : configInRange s.rate su w retry mask bcast = true := (configInRange_iff ..).mpr hrange
  have haccepted : establishCommand su w retry mask bcast (s.clocked 6) =
      answer .done cmdEstablish [addrByte s.ownAddr, s.rate.setWidth 8]
        (establishAccepted
          { silenceUnit := su, window := w, retryLimit := retry, mask := mask, broadcast := bcast == 1 }
          (s.clocked 6)) := by
    simp only [establishCommand, State.clocked, if_neg haddr, huse, hconfig, hst, Bool.not_true, Bool.false_eq_true,
      if_false, ne_eq, not_true_eq_false]
  rw [exec_establish htakes, haccepted, establishAccepted_eq (s := s.clocked 6) hnormal]
  simp only [refreshAccess, answer, State.noOrders, State.clocked, hurgent, List.isEmpty_nil, List.isEmpty_cons,
    Bool.and_false, Bool.false_eq_true, if_false, State.readyCondition, State.slot, State.rank]
  rfl

end Sys2Proof.Machine

namespace Sys2Proof.Machine

/-! ### The commands of one key as rows -/

/-- RELEASE of one key, taken on an idle port, is the owner's command (R39, R170). -/
theorem exec_release {s : State} (h : s.TakesCommands) (k : Byte) :
    exec (.release [k]) s = .next (refreshAccess (releaseCommand k (s.clocked 2))) :=
  live_command_taken h cmdRelease [k] (by simp)

/-- QUERY of one key, taken on an idle port, is the owner's command (R14, R170). -/
theorem exec_query {s : State} (h : s.TakesCommands) (k : Byte) :
    exec (.query [k]) s = .next (refreshAccess (queryCommand k (s.clocked 2))) :=
  live_command_taken h cmdQuery [k] (by simp)

theorem validKey_of_ne {k : Byte} (h0 : k ≠ 0) (h255 : k ≠ 255) : validKey k = true := by
  simp only [validKey, Bool.and_eq_true, bne_iff_ne]
  exact ⟨h0, h255⟩

theorem validKey_of_reserved {k : Byte} (h : k = 0 ∨ k = 255) : validKey k = false := by
  rcases h with rfl | rfl <;> rfl

theorem takesAsk_of_other {st : StationState} (hl : st ≠ .listening) (ha : st ≠ .active) : st.takesAsk = false := by
  rw [← Bool.not_eq_true, StationState.takesAsk_iff]
  exact fun h => h.elim hl ha

theorem takesWatch_of_other {st : StationState} (h : st = .unconfigured ∨ st = .offline) : st.takesWatch = false := by
  rcases h with rfl | rfl <;> rfl

/-! ### An ask that starts -/

section AskStarts

variable {s : State} {n : Nat} {e : Entry} (h : s.EntryAt n e)
include h

/-- The entry of an ask that starts, at its number, with the want of its mode. -/
theorem setClaim_setWant_at (c : Claim) (w : Want) :
    setClaim e.key c (setWant e.key w s) = s.putEntry n { e with claim := c, want := w } := by
  rw [setWant_at h]
  exact (setClaim_at (h.put { e with want := w } rfl) c).trans (putEntry_putEntry _ _ _ _)

/-- An ask that starts with room in the lane (R18, R20). -/
theorem startAsk_at (hroom : s.normal.length < 21) (w : Want) :
    startAsk e.key (setWant e.key w s) =
      some { s.putEntry n { e with claim := .asking none, want := w } with
        normal := if s.station = .active then s.normal ++ [.ask e.key] else s.normal } := by
  rw [startAsk, setClaim_setWant_at h]
  by_cases hactive : s.station = .active
  · simp [State.putEntry, requestAsk, hactive, StationState.transmits, normalCapacity, hroom]
  · simp [State.putEntry, hactive]

/-- An ask that the full lane refuses (R120). -/
theorem startAsk_full (hactive : s.station = .active) (hfull : 21 ≤ s.normal.length) (w : Want) :
    startAsk e.key (setWant e.key w s) = none := by
  rw [startAsk, setClaim_setWant_at h]
  simp [State.putEntry, requestAsk, hactive, StationState.transmits, normalCapacity, hfull]

/-- ASK on a FREE entry at its number (R18). -/
theorem askFree_at (hroom : s.normal.length < 21) (w : Want) (before : State) :
    askFree e.key w before s =
      { (s.putEntry n { e with claim := .asking none, want := w }).answered .done cmdAsk [e.key, natByte n, 2, 0] with
        normal := if s.station = .active then s.normal ++ [.ask e.key] else s.normal } := by
  have hat : ({ s.putEntry n { e with claim := .asking none, want := w } with
      normal := if s.station = .active then s.normal ++ [.ask e.key] else s.normal } : State).EntryAt n
        { e with claim := .asking none, want := w } := (h.put { e with claim := .asking none, want := w } rfl).congr rfl
  rw [askFree, startAsk_at h hroom]
  exact answerAsk_at hat .done

theorem askEntry_free (hfree : e.claim = .free) (w : Want) : askEntry e.key w s = askFree e.key w s s := by
  simp [askEntry, h.entry, hfree]

end AskStarts

/-- ASK of a key without an entry takes the lowest VACANT place (R11, R18). -/
theorem askEntry_allocates {s : State} {k : Byte} (habsent : s.entry k = none) {pre post : List (Option Entry)}
    (ht : s.table = pre ++ none :: post) (hpre : ∀ x ∈ pre, x.isSome = true) (w : Want) :
    askEntry k w s = askFree k w s { s with table := pre ++ some (newEntry k) :: post } := by
  have halloc : allocate (newEntry k) s.table = some (pre ++ some (newEntry k) :: post) :=
    ht ▸ allocate_at (newEntry k) pre post hpre
  simp [askEntry, habsent, halloc]

theorem askEntry_full {s : State} {k : Byte} (habsent : s.entry k = none) (hfull : ∀ x ∈ s.table, x.isSome = true)
    (w : Want) : askEntry k w s = answer .tableFull cmdAsk [k] s := by
  simp [askEntry, habsent, (allocate_none (newEntry k) s.table).mpr hfull]

/-- A table with a VACANT place has a lowest one. -/
theorem exists_lowest_vacant {t : List (Option Entry)} (h : ∃ x ∈ t, x = none) :
    ∃ pre post, t = pre ++ none :: post ∧ ∀ x ∈ pre, x.isSome = true := by
  obtain ⟨x, hx, rfl⟩ := h
  obtain ⟨pre, post, rfl, hpre⟩ := List.eq_append_cons_of_mem hx
  exact ⟨pre, post, rfl, fun x hx => Option.isSome_iff_ne_none.mpr fun hnone => hpre (hnone ▸ hx)⟩

/-- Settles O14: past its checks ASK starts on the entry that stands, or on the one allocated. -/
theorem askStartsAnAsk : Obligations.AskStartsAnAsk := by
  intro s k mode w htakes hst low high hmode hroom
  have hst' : (s.clocked 3).station.takesAsk = true := (StationState.takesAsk_iff s.station).mpr hst
  have hw : (mode = 1 ∨ mode = 2) ∧ modeOf mode = w := by
    rcases hmode with ⟨rfl, rfl⟩ | ⟨rfl, rfl⟩ <;> simp [modeOf]
  have hcommand : exec (.ask [k, mode]) s = .next (refreshAccess (askEntry k w (s.clocked 3))) := by
    rw [exec_ask htakes, askCommand_checked hst' (validKey_of_range low high) hw.1, hw.2]
  refine ⟨fun n e hat hk hfree => ?_, fun pre post ht hpre habsent => ?_⟩
  · subst hk
    have hat' : (s.clocked 3).EntryAt n e := hat.congr rfl
    rw [hcommand, askEntry_free hat' hfree, askFree_at hat' hroom]
    rfl
  · have ht' : (s.clocked 3).table = pre ++ none :: post := ht
    have hat := entryAt_allocated (s := s.clocked 3) habsent ht'
    have hstart := askFree_at hat hroom w (s.clocked 3)
    rw [hcommand, askEntry_allocates (s := s.clocked 3) habsent ht' hpre]
    rw [show (newEntry k).key = k from rfl] at hstart
    rw [hstart]
    have hset (x : Option Entry) : (pre ++ some (newEntry k) :: post).set pre.length x = pre ++ x :: post := by simp
    simp only [State.putEntry, hset]
    rfl

/-! ### Commands that are refused -/

/-- Settles O16: each check that fails is an answer without any other effect. -/
theorem keyCommandsAreRefused : Obligations.KeyCommandsAreRefused := by
  intro s k mode htakes hfollows
  have hrefused {t u : State} (h : t = u) (hu : u.access = s.access) (hurgent : u.urgent = s.urgent)
      (hnormal : u.normal = s.normal) : (Host.Outcome.next (refreshAccess t) : Host.Outcome State Fault Refusal) =
        .next u := hfollows.next_eq h hu hurgent hnormal
  refine ⟨fun hl ha => ?_, fun hst => ?_, fun hst hk => ?_, fun hu ho hk => ?_, fun hst h0 h255 => ?_⟩
  · have hno : (s.clocked 3).station.takesAsk = false := takesAsk_of_other hl ha
    have hno' : (s.clocked 2).station.takesAsk = false := hno
    rw [exec_ask htakes, exec_release htakes]
    exact ⟨hrefused (by rw [askCommand, hno]; rfl) rfl rfl rfl, hrefused (by rw [releaseCommand, hno']; rfl) rfl rfl rfl⟩
  · have hno : (s.clocked 2).station.takesWatch = false := takesWatch_of_other hst
    rw [exec_watch_key htakes, exec_unwatch_key htakes, exec_query htakes]
    exact ⟨hrefused (by rw [watchCommand, hno]; rfl) rfl rfl rfl,
      hrefused (by rw [unwatchCommand, hno]; rfl) rfl rfl rfl, hrefused (by rw [queryCommand, hno]; rfl) rfl rfl rfl⟩
  · have hyes : (s.clocked 3).station.takesAsk = true := (StationState.takesAsk_iff s.station).mpr hst
    have hyes' : (s.clocked 2).station.takesAsk = true := hyes
    have hbad := validKey_of_reserved hk
    rw [exec_ask htakes, exec_release htakes]
    exact ⟨hrefused (by rw [askCommand, hyes, hbad]; rfl) rfl rfl rfl,
      hrefused (by rw [releaseCommand, hyes', hbad]; rfl) rfl rfl rfl⟩
  · have hyes : (s.clocked 2).station.takesWatch = true := (StationState.takesWatch_iff s.station).mpr ⟨hu, ho⟩
    have hbad := validKey_of_reserved hk
    rw [exec_watch_key htakes, exec_unwatch_key htakes, exec_query htakes]
    exact ⟨hrefused (by rw [watchCommand, hyes, hbad]; rfl) rfl rfl rfl,
      hrefused (by rw [unwatchCommand, hyes, hbad]; rfl) rfl rfl rfl,
      hrefused (by rw [queryCommand, hyes, hbad]; rfl) rfl rfl rfl⟩
  · have hyes : (s.clocked 3).station.takesAsk = true := (StationState.takesAsk_iff s.station).mpr hst
    have hyes' : (s.clocked 2).station.takesAsk = true := hyes
    have hk := validKey_of_ne h0 h255
    refine ⟨fun h1 h2 => ?_, fun hm habsent hfull => ?_, fun hm hactive hfull => ⟨fun n e hat hek hfree => ?_,
      fun habsent hplace => ?_⟩, fun habsent => ?_⟩
    · rw [exec_ask htakes]
      exact hrefused (by simp only [askCommand, hyes, hk, if_neg h1, if_neg h2]; rfl) rfl rfl rfl
    · rw [exec_ask htakes, askCommand_checked hyes hk hm]
      exact hrefused (askEntry_full (s := s.clocked 3) habsent hfull _) rfl rfl rfl
    · subst hek
      have hat' : (s.clocked 3).EntryAt n e := hat.congr rfl
      rw [exec_ask htakes, askCommand_checked hyes hk hm, askEntry_free hat' hfree, askFree,
        startAsk_full hat' hactive hfull, answerAsk_at hat', hfree]
      exact hrefused rfl rfl rfl rfl
    · obtain ⟨pre, post, ht, hpre⟩ := exists_lowest_vacant hplace
      have ht' : (s.clocked 3).table = pre ++ none :: post := ht
      have hnone : (s.clocked 3).entry k = none := habsent
      have hstart := startAsk_full (entryAt_allocated hnone ht') hactive hfull (modeOf mode)
      rw [show (newEntry k).key = k from rfl] at hstart
      rw [exec_ask htakes, askCommand_checked hyes hk hm, askEntry_allocates hnone ht' hpre, askFree, hstart]
      refine hrefused ?_ rfl rfl rfl
      simp only [answerAsk, State.entryFields, State.entryStation, hnone]
      cases findNumber k (s.clocked 3).table <;> rfl
    · have hnone : (s.clocked 2).entry k = none := habsent
      rw [exec_release htakes]
      exact hrefused (by simp only [releaseCommand, hyes', hk, hnone]; rfl) rfl rfl rfl

/-! ### RELEASE -/

section Release

variable {s : State} {n : Nat} {e : Entry} (h : s.EntryAt n e)
include h

theorem releaseCommand_at (hst : s.station.takesAsk = true) (hk : validKey e.key = true) :
    releaseCommand e.key s = releaseEntry e.key e s := by
  simp [releaseCommand, hst, hk, h.entry]

/-- The three fields of a result with key, entry number and state (R39, R171). -/
theorem answerKey_at (code : ResultCode) (command : Byte) :
    answerKey code command e.key s = s.answered code command [e.key, natByte n, e.claim.code] := by
  simp only [answerKey, h.fields]
  rfl

end Release

/-- Settles O17: RELEASE by the state of the entry, with the effects of `releaseMine` and `releaseAsking`. -/
theorem releaseEndsHoldsAndAsks : Obligations.ReleaseEndsHoldsAndAsks := by
  intro s n e htakes hst hat low high
  have hat' : (s.clocked 2).EntryAt n e := hat.congr rfl
  have hyes : (s.clocked 2).station.takesAsk = true := (StationState.takesAsk_iff s.station).mpr hst
  have htransmits : (s.clocked 2).station.transmits = true := by rcases hst with hst | hst <;> simp [State.clocked, hst, StationState.transmits]
  have hcommand : exec (.release [e.key]) s = .next (refreshAccess (releaseEntry e.key e (s.clocked 2))) := by
    rw [exec_release htakes, releaseCommand_at hat' hyes (validKey_of_range low high)]
  have hput : ((s.clocked 2).putEntry n { e with claim := .free, want := .none }).EntryAt n
      { e with claim := .free, want := .none } := hat'.put _ rfl
  have hfields {t : State} (ht : t.table = ((s.clocked 2).putEntry n { e with claim := .free, want := .none }).table) :
      answerKey .done cmdRelease e.key t = t.answered .done cmdRelease [e.key, natByte n, 0] :=
    answerKey_at (e := { e with claim := .free, want := .none }) (hput.congr ht) .done cmdRelease
  refine ⟨fun hc => ?_, fun hc => ?_, fun t hc => ?_, fun hfollows => ⟨fun hc => ?_, fun c hc => ?_⟩⟩ <;> rw [hcommand]
  · simp only [releaseEntry, hc]
    rw [releaseMine_at htransmits hat', hfields] <;> rfl
  · simp only [releaseEntry, hc]
    rw [releaseAsking_at htransmits hat', hfields] <;> rfl
  · simp only [releaseEntry, hc]
    rw [releaseAsking_at htransmits hat', hfields] <;> rfl
  · simp only [releaseEntry, hc]
    rw [answerKey_at hat', hc]
    exact hfollows.next_eq rfl rfl rfl rfl
  · have hcode : e.claim.code = c := by rcases hc with ⟨q, hc, rfl⟩ | ⟨a, d, hc, rfl⟩ <;> rw [hc] <;> rfl
    have hpeer : releaseEntry e.key e (s.clocked 2) =
        if e.want = .wait then answerKey .done cmdRelease e.key (setWant e.key .none (s.clocked 2))
        else answerKey .notHeld cmdRelease e.key (s.clocked 2) := by
      rcases hc with ⟨q, hc, -⟩ | ⟨a, d, hc, -⟩ <;> simp only [releaseEntry, hc]
    have hended : answerKey .done cmdRelease e.key ((s.clocked 2).putEntry n { e with want := .none }) =
        ((s.clocked 2).putEntry n { e with want := .none }).answered .done cmdRelease [e.key, natByte n, e.claim.code] :=
      answerKey_at (e := { e with want := .none }) (hat'.put _ rfl) .done cmdRelease
    rw [hpeer, setWant_at hat', answerKey_at hat', hended, hcode]
    split <;> exact hfollows.next_eq rfl rfl rfl rfl

/-! ### POST -/

theorem exec_post {s : State} (h : s.TakesCommands) (d tag len : Byte) {payload : List Byte}
    (hl : payload.length ≤ 28) :
    exec (.post (d :: tag :: len :: payload)) s =
      .next (refreshAccess (postCommand d tag len payload (s.clocked (payload.length + 4)))) :=
  live_command_taken h cmdPost (d :: tag :: len :: payload) (by simp only [List.length_cons]; omega)

/-- The record of a POST whose length field does not fit its payload (R159). -/
theorem postCommand_badLength {len : Byte} {payload : List Byte}
    (h : ¬(1 ≤ len.toNat ∧ len.toNat ≤ 16 ∧ payload.length = len.toNat)) (d tag : Byte) (s : State) :
    postCommand d tag len payload s = answer .badLength cmdPost [tag] s := by
  rw [postCommand, if_pos]
  simp only [Bool.or_eq_true, decide_eq_true_eq, bne_iff_ne, ne_eq]
  omega

section Shaped

variable {len : Byte} {payload : List Byte} (h : 1 ≤ len.toNat ∧ len.toNat ≤ 16 ∧ payload.length = len.toNat)
include h

/-- Past the length check POST is judged by station, destination and pending posts (R159). -/
theorem postCommand_shaped (d tag : Byte) (s : State) :
    postCommand d tag len payload s =
      if !s.station.takesAsk then answer .wrongState cmdPost [tag] s
      else if d > 31 || d == addrByte s.ownAddr then answer .badConfig cmdPost [tag] s
      else if 4 ≤ s.pendingPosts then answerPost .queueFull tag s
      else answerPost .done tag (requestPost { destination := d, tag := tag, payload := payload } s) := by
  obtain ⟨low, high, hlength⟩ := h
  rw [postCommand, if_neg]
  · rfl
  · simp only [Bool.or_eq_true, decide_eq_true_eq, bne_iff_ne, ne_eq]
    omega

end Shaped

/-- A destination in range that is not the own address (R159). -/
theorem reachable_iff (d : Byte) (own : Addr) :
    (decide (d > 31) || d == addrByte own) = false ↔ d.toNat ≤ 31 ∧ d ≠ addrByte own := by
  rw [Bool.or_eq_false_iff, decide_eq_false_iff_not, beq_eq_false_iff_ne]
  refine and_congr_left fun _ => ?_
  rw [gt_iff_lt, BitVec.lt_def]
  exact Nat.not_lt

theorem pendingPosts_requestPost {s : State} (hst : s.station.transmits = true) (p : Post) :
    requestPost p s = { s with normal := s.normal ++ [.post p] } ∧
      ({ s with normal := s.normal ++ [.post p] } : State).pendingPosts = s.pendingPosts + 1 := by
  refine ⟨by rw [requestPost, if_pos hst], ?_⟩
  rw [pendingPosts_eq, pendingPosts_eq, List.countP_append]
  simp only [List.countP_singleton, NormalOrder.isPost, if_true, State.slotOrder]
  omega

/-- Settles O21: the checks of POST in their order; a post accepted counts among the pending ones of its answer. -/
theorem postIsCheckedAndQueued : Obligations.PostIsCheckedAndQueued := by
  intro s d tag len payload htakes shaped accepts reachable t
  have htakesAsk (h : accepts) : t.station.takesAsk = true := (StationState.takesAsk_iff s.station).mpr h
  have hexec (h : shaped) : exec (.post (d :: tag :: len :: payload)) s =
      .next (refreshAccess (postCommand d tag len payload t)) := exec_post htakes d tag len (by
    obtain ⟨-, high, hlength⟩ := h
    omega)
  refine ⟨fun hfollows => ⟨fun hno => ?_, fun hshaped hno => ?_, fun hshaped hyes hno => ?_, fun hshaped hyes hr hfull => ?_⟩,
    fun hshaped hyes hr hroom => ?_⟩
  · refine live_command_answered (code := cmdPost) (fields := d :: tag :: len :: payload) htakes hfollows ?_
    refine postCommand_badLength (payload := payload.take 28) (fun ⟨low, high, hlength⟩ => hno ⟨low, high, ?_⟩) d tag _
    rw [List.length_take] at hlength
    omega
  · have hst : t.station.takesAsk = false := by
      rw [← Bool.not_eq_true, StationState.takesAsk_iff]
      exact hno
    rw [hexec hshaped, postCommand_shaped hshaped, hst]
    exact hfollows.next_eq rfl rfl rfl rfl
  · have hbad : (decide (d > 31) || d == addrByte t.ownAddr) = true := by
      rw [← Bool.not_eq_false]
      exact fun h => hno ((reachable_iff d s.ownAddr).mp h)
    rw [hexec hshaped, postCommand_shaped hshaped, htakesAsk hyes, hbad]
    exact hfollows.next_eq rfl rfl rfl rfl
  · have hgood : (decide (d > 31) || d == addrByte t.ownAddr) = false := (reachable_iff d s.ownAddr).mpr hr
    have hfull' : 4 ≤ t.pendingPosts := hfull
    rw [hexec hshaped, postCommand_shaped hshaped, htakesAsk hyes, hgood, if_pos hfull']
    exact hfollows.next_eq rfl rfl rfl rfl
  · have hgood : (decide (d > 31) || d == addrByte t.ownAddr) = false := (reachable_iff d s.ownAddr).mpr hr
    have hroom' : ¬ 4 ≤ t.pendingPosts := Nat.not_le.mpr hroom
    have htransmits : t.station.transmits = true := by
      rcases hyes with hst | hst <;> simp [t, State.clocked, hst, StationState.transmits]
    obtain ⟨hjoins, hcount⟩ := pendingPosts_requestPost htransmits { destination := d, tag := tag, payload := payload }
    rw [hexec hshaped, postCommand_shaped hshaped, htakesAsk hyes, hgood, if_neg hroom', hjoins]
    simp only [answerPost, hcount]
    rfl

end Sys2Proof.Machine

namespace Sys2Proof.Machine

/-! ### Bits of a byte -/

/-- The bits of a byte are those it was made of (R98). -/
theorem getLsbD_byteOfBits (bits : List Bool) {j : Nat} (hj : j < 8) :
    (byteOfBits bits).getLsbD j = bits[j]?.getD false := by
  have htest : ∀ (l : List Bool) (i : Nat),
      (l.foldr (fun (b : Bool) n => 2 * n + b.toNat) 0).testBit i = l[i]?.getD false := by
    intro l
    induction l with
    | nil => simp
    | cons b l ih =>
      intro i
      have hbit : (b :: l).foldr (fun (b : Bool) n => 2 * n + b.toNat) 0 =
          Nat.bit b (l.foldr (fun (b : Bool) n => 2 * n + b.toNat) 0) := (Nat.bit_val b _).symm
      cases i with
      | zero => rw [hbit, Nat.testBit_bit_zero]; rfl
      | succ i => rw [hbit, Nat.testBit_bit_succ, ih]; rfl
  rw [byteOfBits, BitVec.getLsbD_ofNat, htest]
  simp [hj]

/-- A bitmap of 32 places, eight to a byte (12.4). -/
theorem bitmapBytes_getLsbD (places : List Bool) {q r : Nat} (hq : q < 4) (hr : r < 8) :
    ((bitmapBytes places)[q]?.getD 0).getLsbD r = places[8 * q + r]?.getD false := by
  have hbyte (l : List Bool) : (bitmapByte (l.take 8)).getLsbD r = l[r]?.getD false := by
    rw [bitmapByte, getLsbD_byteOfBits _ hr, List.getElem?_take_of_lt hr]
  interval_cases q
  · simpa [bitmapBytes] using hbyte places
  · simpa [bitmapBytes, List.getElem?_drop] using hbyte (places.drop 8)
  · simpa [bitmapBytes, List.getElem?_drop] using hbyte (places.drop 16)
  · simpa [bitmapBytes, List.getElem?_drop] using hbyte (places.drop 24)

/-! ### The Roster as ROSTER returns it -/

section Roster

variable {s : State} (h : s.roster.length = 32) (a : Addr)
include h

theorem presentPlaces_at :
    s.presentPlaces[a.toNat]?.getD false = if a = s.ownAddr then s.own.present else (s.peer a).isSome := by
  have ha : a.toNat < s.roster.length := h ▸ a.isLt
  rw [State.presentPlaces, List.getElem?_set]
  by_cases hown : a = s.ownAddr
  · simp [hown, h, s.ownAddr.isLt]
  · have hne : s.ownAddr.toNat ≠ a.toNat := fun he => hown (BitVec.eq_of_toNat_eq he.symm)
    simp [hown, hne, State.peer, List.getElem?_eq_getElem ha]

theorem joiningPlaces_at :
    s.joiningPlaces[a.toNat]?.getD false =
      if a = s.ownAddr then s.own.joining else ((s.peer a).map Peer.joining).getD false := by
  have ha : a.toNat < s.roster.length := h ▸ a.isLt
  rw [State.joiningPlaces, List.getElem?_set]
  by_cases hown : a = s.ownAddr
  · simp [hown, h, s.ownAddr.isLt]
  · have hne : s.ownAddr.toNat ≠ a.toNat := fun he => hown (BitVec.eq_of_toNat_eq he.symm)
    simp [hown, hne, State.peer, List.getElem?_eq_getElem ha]

end Roster

/-! ### The snapshot of QUERY -/

/-- The state order of the key in the urgent lane (R14). -/
theorem stateOrderCode_eq (k : Byte) (l : List UrgentOrder) :
    stateOrderCode k l =
      (match l.find? (fun o => o.isStateOf k) with
        | some (.hold _) => 1
        | some (.free _ _) => 2
        | _ => 0) := by
  induction l with
  | nil => rfl
  | cons o l ih =>
    cases o with
    | object j => simpa [stateOrderCode, UrgentOrder.isStateOf] using ih
    | hold j => by_cases hj : j = k <;> simp [stateOrderCode, UrgentOrder.isStateOf, hj, ih]
    | free j b => by_cases hj : j = k <;> simp [stateOrderCode, UrgentOrder.isStateOf, hj, ih]

theorem slotAsk_iff (s : State) (k : Byte) : s.slotAsk k = true ↔ s.slotOrder = some (.normal (.ask k)) := by
  rw [State.slotAsk]
  rcases s.slotOrder with _ | (u | (j | b | p)) <;> simp

/-- The ask progress by the attempt slot and the lane (R6, R14; log 13). -/
theorem askProgress_unsent (s : State) (k : Byte) :
    s.askProgress k (.asking none) =
      if s.slotOrder = some (.normal (.ask k)) then 3 else if .ask k ∈ s.normal then 2 else 1 := by
  simp only [State.askProgress, slotAsk_iff, any_isAskOf]

theorem frameInAttempt_eq (s : State) (k : Byte) :
    s.frameInAttempt k =
      (match s.slotOrder with
        | some (.normal (.ask j)) => if j = k then 1 else 0
        | some (.urgent (.object j)) => if j = k then 2 else 0
        | some (.urgent (.hold j)) => if j = k then 3 else 0
        | some (.urgent (.free j _)) => if j = k then 4 else 0
        | _ => 0) := by
  unfold State.frameInAttempt
  rcases s.slotOrder with _ | ((j | j | ⟨j, b⟩) | (j | b | p)) <;> rfl

theorem any_isObjectOf_eq (k : Byte) (l : List UrgentOrder) :
    l.any (UrgentOrder.isObjectOf k) = decide (.object k ∈ l) := by
  rw [Bool.eq_iff_iff, any_isObjectOf, decide_eq_true_iff]

/-- The timer of an entry, as the snapshot shows it (R14; log 21). -/
theorem timerField_eq (c : Claim) :
    c.timerField = (match c with
      | .asking (some t) => (t + 15999) / 16000
      | .peerAsking _ t => (t + 15999) / 16000
      | _ => 0) := by
  rcases c with _ | ⟨a, d⟩ | (_ | t) | _ | q <;> rfl

theorem timerPaused_eq (c : Claim) (m : Monitor) :
    (c.timer.isSome && !m.timersRun) =
      ((match c with
          | .asking (some _) => true
          | .peerAsking _ _ => true
          | _ => false) &&
        (match m with
          | .settling _ => true
          | .stuck _ => true
          | _ => false)) := by
  rcases c with _ | ⟨a, d⟩ | (_ | t) | _ | q <;> cases m <;> rfl

theorem askProgress_eq (s : State) (k : Byte) (c : Claim) :
    s.askProgress k c =
      (match c with
        | .asking (some _) => 4
        | .asking none => if s.slotOrder = some (.normal (.ask k)) then 3 else if .ask k ∈ s.normal then 2 else 1
        | _ => 0) := by
  rcases c with _ | ⟨a, d⟩ | (_ | t) | _ | q
  case asking.none => exact askProgress_unsent s k
  all_goals rfl

theorem queryCommand_at {s : State} {n : Nat} {e : Entry} (h : s.EntryAt n e) (hst : s.station.takesWatch = true)
    (hk : validKey e.key = true) :
    queryCommand e.key s = s.answered .done cmdQuery
      ([e.key, natByte n, e.claim.code, e.want.code, e.claim.holderField s.ownAddr, e.claim.askerField, e.gen,
          s.askProgress e.key e.claim] ++ twoBytes e.claim.timerField ++
        [boolByte (e.claim.timer.isSome && !s.monitor.timersRun), stateOrderCode e.key s.urgent,
          boolByte (s.urgent.any (UrgentOrder.isObjectOf e.key)), s.frameInAttempt e.key]) := by
  simp only [queryCommand, hst, hk, h.entry, State.snapshot, h.fields]
  rfl

theorem queryCommand_absent {s : State} {k : Byte} (h : s.entry k = none) (hst : s.station.takesWatch = true)
    (hk : validKey k = true) : queryCommand k s = s.answered .notWatched cmdQuery [k] := by
  simp only [queryCommand, hst, hk, h]
  rfl

/-- Settles O20: the snapshot field by field, and the two bitmaps place by place. -/
theorem queryAndRosterReport : Obligations.QueryAndRosterReport := by
  refine ⟨fun s htakes hfollows hu ho => ⟨fun k low high habsent => ?_, fun n e hat low high => ?_⟩,
    fun s htakes hfollows hroster => ⟨bitmapBytes s.presentPlaces ++ bitmapBytes s.joiningPlaces, rfl, ?_, fun a => ?_⟩⟩
  · have hst : (s.clocked 2).station.takesWatch = true := (StationState.takesWatch_iff s.station).mpr ⟨hu, ho⟩
    rw [exec_query htakes]
    exact hfollows.next_eq (queryCommand_absent (s := s.clocked 2) habsent hst (validKey_of_range low high)) rfl rfl rfl
  · have hst : (s.clocked 2).station.takesWatch = true := (StationState.takesWatch_iff s.station).mpr ⟨hu, ho⟩
    have hat' : (s.clocked 2).EntryAt n e := hat.congr rfl
    rw [exec_query htakes]
    refine hfollows.next_eq ((queryCommand_at hat' hst (validKey_of_range low high)).trans ?_) rfl rfl rfl
    rw [askProgress_eq, timerField_eq, timerPaused_eq, stateOrderCode_eq, any_isObjectOf_eq, frameInAttempt_eq]
    rfl
  · exact live_command_answered htakes hfollows rfl
  · have hq : a.toNat / 8 < 4 := Nat.div_lt_of_lt_mul a.isLt
    have hr : a.toNat % 8 < 8 := Nat.mod_lt _ (by decide)
    have hplace : 8 * (a.toNat / 8) + a.toNat % 8 = a.toNat := Nat.div_add_mod _ _
    have hpresent := bitmapBytes_getLsbD s.presentPlaces hq hr
    have hjoining := bitmapBytes_getLsbD s.joiningPlaces hq hr
    rw [hplace] at hpresent hjoining
    have hlength : (bitmapBytes s.presentPlaces).length = 4 := rfl
    rw [List.getElem?_append_left (hlength ▸ hq), List.getElem?_append_right (by omega), hlength,
      Nat.add_sub_cancel_left]
    exact ⟨hpresent.trans (presentPlaces_at hroster a), hjoining.trans (joiningPlaces_at hroster a)⟩

end Sys2Proof.Machine

namespace Sys2Proof.Machine

/-! ### The timing of the own station -/

theorem presencePeriod_of_config {s : State} {c : Configuration} (h : s.config = some c) :
    s.presencePeriod = ms (4 * c.silenceUnit.toNat) := by
  rw [State.presencePeriod, State.silenceUnit, h]

theorem halfSilence_of_config {s : State} {c : Configuration} (h : s.config = some c) :
    s.halfSilence = ms (8 * c.silenceUnit.toNat) := by
  rw [State.halfSilence, State.silenceUnit, h]

theorem silenceTimeout_of_config {s : State} {c : Configuration} (h : s.config = some c) :
    s.silenceTimeout = ms (16 * c.silenceUnit.toNat) := by
  rw [State.silenceTimeout, h]

/-- A PRESENCE joins the lane where none is pending (R121). -/
theorem requestPresence_transmits {s : State} (h : s.station.transmits = true) :
    requestPresence s =
      { s with
        normal := if s.normal.any NormalOrder.isPresence || s.slotPresence then s.normal
          else s.normal ++ [.presence false] } := by
  rw [requestPresence, h]
  cases s.normal.any NormalOrder.isPresence <;> cases s.slotPresence <;> rfl

/-- Settles O52: a count below T_s/4 reaches it, and its PRESENCE is requested. -/
theorem presencePeriodRequestsAPresence : Obligations.PresencePeriodRequestsAPresence := by
  intro s x c hreset hconfig hpresence hbelow hst own
  have htransmits : s.station.transmits = true := by rcases hst with hst | hst <;> rw [hst] <;> rfl
  have hperiod := presencePeriod_of_config hconfig
  have hdue : presenceDue s = requestPresence { s with own := own } := by
    have hcond : ((s.station == .listening || s.station == .active) && decide (x < s.presencePeriod)) = true := by
      rw [hperiod, decide_eq_true hbelow]
      rcases hst with hst | hst <;> rw [hst] <;> rfl
    simp only [presenceDue, hpresence]
    rw [if_pos hcond, hperiod]
  have hrow : exec .presencePeriod s = .next (refreshAccess (presenceDue s)) := live_eq hreset
  rw [hrow, hdue, requestPresence_transmits (s := { s with own := own }) htransmits]
  rfl

/-- Settles O48: the passage of time field by field. -/
theorem clocksAdvanceAndPause : Obligations.ClocksAdvanceAndPause := by
  refine ⟨⟨rfl, rfl, rfl, rfl, fun n => ?_⟩, fun s => ⟨s.tableAfter (sampleTime s.rate), _,
    s.ownAfter (sampleTime s.rate), _, rfl, rfl, rfl, rfl, rfl, rfl, rfl, fun hpaused => ?_, fun hruns => ?_⟩⟩
  · show (n * 16000 : Nat) = 16 * (1000 * n)
    omega
  · have hstand : s.monitor.timersRun = false := by rcases hpaused with ⟨n, h⟩ | ⟨n, h⟩ <;> rw [h] <;> rfl
    simp [State.tableAfter, State.ownAfter, hstand]
  · have hcount : s.monitor.timersRun = true := by rcases hruns with ⟨e, a, h⟩ | h <;> rw [h] <;> rfl
    refine ⟨by simp [State.ownAfter, hcount], ?_⟩
    rw [State.tableAfter, if_pos hcount]
    refine List.map_congr_left fun place _ => Option.map_congr fun e _ => ?_
    rcases e with ⟨k, v, g, _ | ⟨a, d⟩ | (_ | t) | _ | q⟩ <;> rfl

/-! ### Foreign frames at every station -/

/-- An intact foreign frame in range is counted, and taken as a clash or dispatched (R90, R93, R94). -/
theorem arrival_taken {s : State} {f : Frame} (noisy : Bool) (hears : s.Hears) (hrange : f.inRange = true) :
    arrival f noisy s =
      if s.isClash f then takeClash f (s.tookFrame f.source noisy) else dispatch f (s.tookFrame f.source noisy) := by
  obtain ⟨-, hdrive, hruns⟩ := hears
  have hstuck : s.monitor.isStuck = false := by
    cases hm : s.monitor <;> simp_all [Monitor.timersRun, Monitor.isStuck]
  have hsettling : s.monitor.isSettling = false := by
    cases hm : s.monitor <;> simp_all [Monitor.timersRun, Monitor.isSettling]
  have htook : ({ countNoisy noisy (count .framesOk s.passed) with lastSource := f.source } : State) =
      s.tookFrame f.source noisy := by cases noisy <;> rfl
  have hclash : (s.tookFrame f.source noisy).isClash f = s.isClash f := rfl
  simp only [arrival, hdrive, hstuck, hsettling, hrange, Frame.lengthInRange_of_inRange hrange,
    framePasses_eq_passed hruns, foreignFrame, htook, hclash, Bool.or_self, Bool.false_eq_true, if_false, Bool.not_true]

/-- A frame of a foreign station that does not name this one as precedent is no clash (R93). -/
theorem isClash_of_foreign {s : State} {f : Frame} (h : s.Foreign f.source)
    (hprecedent : ∀ k p r g, f.body = .object k p r g → p ≠ addrByte s.ownAddr) : s.isClash f = false := by
  rw [State.isClash, h.isOwn_false, Bool.false_or]
  split
  · next k p r g hbody => simp [hprecedent k p r g hbody]
  · rfl

/-- A frame of a foreign station in range is dispatched by the station state (R94). -/
theorem live_arrival_dispatched {s : State} {f : Frame} (noisy : Bool) (hears : s.Hears) (hrange : f.inRange = true)
    (hforeign : s.Foreign f.source)
    (hprecedent : ∀ k p r g, f.body = .object k p r g → p ≠ addrByte s.ownAddr) :
    live (arrival f noisy) s = .next (refreshAccess (dispatch f (s.tookFrame f.source noisy))) := by
  rw [live_eq hears.1, arrival_taken noisy hears hrange, isClash_of_foreign hforeign hprecedent]
  rfl

/-! ### The Roster -/

/-- Without a configuration the mask admits no optional kind (R173). -/
theorem produce_unconfigured {s : State} (h : s.config = none) {n : Notice} {i : Nat} (hn : n.maskPlace = some i) :
    produce n s = s := by
  refine produce_excluded ?_
  rw [Notice.admitted, hn, h]
  nofun

theorem peerHeard_present {s : State} {p : Addr} {e : Peer} (h : s.peer p = some e) (flag : Option Bool) :
    peerHeard p flag s =
      { s with
        roster := s.roster.set p.toNat
          (some { age := 0, joining := flag.getD e.joining, frames := min 255 (e.frames + 1) }) } := by
  simp only [peerHeard, h]
  rfl

theorem peerHeard_absent {s : State} {p : Addr} (h : s.peer p = none) (flag : Option Bool) :
    peerHeard p flag s = produce (.peerJoined p (flag.getD false))
      { s with
        roster := s.roster.set p.toNat (some { age := 0, joining := flag.getD false, frames := 1 }) } := by
  simp only [peerHeard, h]
  rfl

/-- In UNCONFIGURED a frame heard reaches the Roster alone (R67, R94). -/
theorem peerHeard_unconfigured {s : State} (h : s.config = none) (p : Addr) (flag : Option Bool) (noisy : Bool) :
    peerHeard p flag (s.tookFrame p noisy) = heardUnconfigured p flag noisy s := by
  have hpeer : (s.tookFrame p noisy).peer p = s.peer p := rfl
  have hroster : (s.tookFrame p noisy).roster = s.roster := rfl
  cases he : s.peer p with
  | some e =>
    rw [peerHeard_present (hpeer.trans he), heardUnconfigured, he, hroster]
  | none =>
    rw [peerHeard_absent (hpeer.trans he), heardUnconfigured, he, hroster]
    exact produce_unconfigured (n := .peerJoined p (flag.getD false)) (i := 2) (by exact h) rfl

/-- An absent peer's place holds nothing that could go. -/
theorem setPeer_none_of_absent {s : State} {p : Addr} (h : s.peer p = none) : s.roster.set p.toNat none = s.roster := by
  rw [State.peer] at h
  refine List.ext_getElem? fun m => ?_
  rw [List.getElem?_set]
  split
  · next hm =>
    subst hm
    cases hplace : s.roster[p.toNat]? with
    | none =>
      rw [List.getElem?_eq_none_iff] at hplace
      rw [if_neg (by omega)]
    | some x =>
      rw [hplace] at h
      rw [if_pos (List.getElem?_eq_some_iff.mp hplace).1, show x = none from h]
  · rfl

theorem orphanRelease_vacant {s : State} (h : s.table = List.replicate 16 none) (p : Addr) : orphanRelease p s = s := by
  have hkeys : s.keysAscending = [] := by rw [State.keysAscending, h, tableKeys_vacant]; rfl
  rw [orphanRelease, hkeys]
  rfl

/-- In UNCONFIGURED, with no entry, a departure reaches the Roster alone (R65, R67). -/
theorem peerDeparts_unconfigured {s : State} (h : s.config = none) (htable : s.table = List.replicate 16 none)
    (p : Addr) : peerDeparts p s = { s with roster := s.roster.set p.toNat none } := by
  cases he : s.peer p with
  | some e =>
    have hleft : produce (.peerLeft p (framesUp e.frames)) (setPeer p none s) = setPeer p none s :=
      produce_unconfigured (s := setPeer p none s) h rfl
    simp only [peerDeparts, he, hleft]
    exact orphanRelease_vacant (s := setPeer p none s) htable p
  | none =>
    simp only [peerDeparts, he, setPeer_none_of_absent he]
    exact orphanRelease_vacant htable p

/-! ### The rows of arrivals in range -/

/-- The frames of the arrival rows that are no PRESENCE, with their fields in range (R88). -/
theorem live_nonPresence_dispatched {s : State} {p : Addr} {body : Body} (noisy : Bool) (hears : s.Hears)
    (hp : s.Foreign p) (hrange : ({ source := p, body := body } : Frame).inRange = true)
    (hprecedent : ∀ k q r g, body = .object k q r g → q ≠ addrByte s.ownAddr)
    (hkind : ∀ j l ps, body ≠ .presence j l ps) :
    live (arrival { source := p, body := body } noisy) s = .next (refreshAccess
      (match s.station with
        | .offline => s.tookFrame p noisy
        | .unconfigured => peerHeard p none (s.tookFrame p noisy)
        | _ => allBlocks { source := p, body := body } (s.tookFrame p noisy))) := by
  rw [live_arrival_dispatched noisy hears hrange hp hprecedent]
  have hstation : (s.tookFrame p noisy).station = s.station := rfl
  cases body with
  | presence j l ps => exact absurd rfl (hkind j l ps)
  | _ => cases hs : s.station <;> simp [dispatch, hstation, presenceUnit, hs]

theorem inRange_ask {p : Addr} {k : Byte} (hp : p ≠ 0) (hk : validKey k = true) :
    ({ source := p, body := .ask k } : Frame).inRange = true := by
  simp only [Frame.inRange, Bool.and_eq_true, bne_iff_ne]
  exact ⟨hp, hk⟩

theorem inRange_object {p : Addr} {k q r : Byte} (hp : p ≠ 0) (hk : validKey k = true) (hq : q ≤ 31)
    (hr : r = 1 ∨ r = 2) (g : Byte) : ({ source := p, body := .object k q r g } : Frame).inRange = true := by
  simp only [Frame.inRange, Bool.and_eq_true, Bool.or_eq_true, bne_iff_ne, beq_iff_eq, decide_eq_true_eq]
  exact ⟨hp, ⟨hk, hq⟩, hr⟩

theorem inRange_hold {p : Addr} {k : Byte} (hp : p ≠ 0) (hk : validKey k = true) (g : Byte) :
    ({ source := p, body := .hold k g } : Frame).inRange = true := by
  simp only [Frame.inRange, Bool.and_eq_true, bne_iff_ne]
  exact ⟨hp, hk⟩

theorem inRange_free {p : Addr} {k : Byte} (hp : p ≠ 0) (hk : validKey k = true) (g : Byte) (b : Bool) :
    ({ source := p, body := .free k g b } : Frame).inRange = true := by
  simp only [Frame.inRange, Bool.and_eq_true, bne_iff_ne]
  exact ⟨hp, hk⟩

theorem inRange_post {p : Addr} {d : Byte} {payload : List Byte} (hp : p ≠ 0) (hd : d ≤ 31) (hsome : 1 ≤ payload.length)
    (hfits : payload.length ≤ 16) : ({ source := p, body := .post d payload } : Frame).inRange = true := by
  simp only [Frame.inRange, Bool.and_eq_true, bne_iff_ne, decide_eq_true_eq]
  exact ⟨hp, ⟨hd, hsome⟩, hfits⟩

theorem inRange_presence {p : Addr} {pairs : List (Byte × Byte)} (hp : p ≠ 0) (hfits : pairs.length ≤ 16)
    (hkeys : ∀ x ∈ pairs, 1 ≤ x.1.toNat ∧ x.1.toNat ≤ 254) (joining leaving : Bool) :
    ({ source := p, body := .presence joining leaving pairs } : Frame).inRange = true := by
  simp only [Frame.inRange, Bool.and_eq_true, bne_iff_ne, decide_eq_true_eq, List.all_eq_true]
  exact ⟨hp, hfits, fun x hx => validKey_of_range (hkeys x hx).1 (hkeys x hx).2⟩

/-- Settles O51: the frames by the station that hears them, then the Presence Unit on a present and an absent peer. -/
theorem peerIsRefreshedOrDeclaredSilent : Obligations.PeerIsRefreshedOrDeclaredSilent := by
  refine ⟨?_, fun s p => ⟨fun flag e he => peerHeard_present he flag,
      fun flag he => peerHeard_absent he flag, fun hreset e he => ?_, fun hreset he hfollows => ?_⟩⟩
  · intro s p k g precedent reason d payload pairs joining withdrawn noisy hears hp low high hprecedent hnotOwn hreason hd
      hsome hfits hpairs hkeys rows
    have hk := validKey_of_range low high
    have hrows : ∀ c ∈ rows, exec c s = .next (refreshAccess
        (match s.station with
          | .offline => s.tookFrame p noisy
          | .unconfigured => peerHeard p none (s.tookFrame p noisy)
          | _ => (match c with
            | .askArrival _ _ _ => allBlocks { source := p, body := .ask k } (s.tookFrame p noisy)
            | .objectArrival _ _ _ _ _ _ =>
              allBlocks { source := p, body := .object k precedent reason g } (s.tookFrame p noisy)
            | .holdArrival _ _ _ _ => allBlocks { source := p, body := .hold k g } (s.tookFrame p noisy)
            | .freeArrival _ _ _ _ _ => allBlocks { source := p, body := .free k g withdrawn } (s.tookFrame p noisy)
            | _ => allBlocks { source := p, body := .post d payload } (s.tookFrame p noisy)))) := by
      intro c hc
      simp only [rows, List.mem_cons, List.not_mem_nil, or_false] at hc
      rcases hc with rfl | rfl | rfl | rfl | rfl
      · exact live_nonPresence_dispatched noisy hears.1 hp (inRange_ask hp.1 hk) nofun nofun
      · refine live_nonPresence_dispatched noisy hears.1 hp (inRange_object hp.1 hk hprecedent hreason g)
          (fun k' q r g' h => ?_) nofun
        cases h
        exact hnotOwn
      · exact live_nonPresence_dispatched noisy hears.1 hp (inRange_hold hp.1 hk g) nofun nofun
      · exact live_nonPresence_dispatched noisy hears.1 hp (inRange_free hp.1 hk g withdrawn) nofun nofun
      · exact live_nonPresence_dispatched noisy hears.1 hp (inRange_post hp.1 hd hsome hfits) nofun nofun
    have hpresence (leaving : Bool) : exec (.presenceArrival p joining leaving pairs noisy) s =
        .next (refreshAccess (dispatch { source := p, body := .presence joining leaving pairs } (s.tookFrame p noisy))) :=
      live_arrival_dispatched noisy hears.1 (inRange_presence hp.1 hpairs hkeys joining leaving) hp nofun
    have hstation : (s.tookFrame p noisy).station = s.station := rfl
    refine ⟨fun hst => ⟨fun c hc => ?_, fun leaving => ?_⟩, fun hst hconfig => ⟨fun c hc => ?_, ?_, fun htable => ?_⟩⟩
    · rw [hrows c hc, hst]
    · rw [hpresence, dispatch, hstation, hst]
    · rw [hrows c hc, hst]
      simp only [peerHeard_unconfigured hconfig]
    · rw [hpresence, dispatch, hstation, hst, ← peerHeard_unconfigured hconfig]
      rfl
    · have hdeparts := peerDeparts_unconfigured (s := s.tookFrame p noisy) hconfig htable p
      rw [hpresence, dispatch, hstation, hst]
      exact congrArg (fun t => Host.Outcome.next (refreshAccess t)) hdeparts
  · have hrow : exec (.peerSilent p) s = .next (refreshAccess (peerGoesSilent p s)) := live_eq hreset
    rw [hrow]
    simp only [peerGoesSilent, he]
    rfl
  · have hnone : peerGoesSilent p s = s := by simp only [peerGoesSilent, he]
    exact (live_eq hreset).trans (hfollows.next_eq hnone rfl rfl rfl)

/-! ### An address clash -/

theorem clashTaken_unconfigured {s : State} (h : s.station = .unconfigured) :
    clashTaken s = { s with addrInUse := true } := by rw [clashTaken, if_pos h]

theorem clashTaken_transmits {s : State} (h : s.station.transmits = true) : clashTaken s = enterMute .clash s := by
  rw [clashTaken, if_neg, if_pos h]
  intro hst
  rw [hst] at h
  cases h

theorem clashTaken_silent {s : State} (h : s.station = .mute ∨ s.station = .offline) : clashTaken s = s := by
  rcases h with h | h <;> rw [clashTaken, h] <;> rfl

/-- Settles O41: the clash frame is in range and a clash; its source is heard where it is a peer's. -/
theorem addressClashMarksOrMutes : Obligations.AddressClashMarksOrMutes := by
  intro s p noisy hears hown hp h
  have hrange : (clashFrame s.ownAddr p).inRange = true :=
    inRange_object hp rfl (addrByte_le s.ownAddr) (.inl rfl) 0
  have hclash : s.isClash (clashFrame s.ownAddr p) = true := by
    simp only [State.isClash, clashFrame, Bool.or_eq_true, Bool.and_eq_true, bne_iff_ne, beq_self_eq_true, and_true]
    exact .inr hown
  have htaken : takeClash (clashFrame s.ownAddr p) (s.tookFrame p noisy) = clashTaken h := by
    have hsilent : ((s.tookFrame p noisy).isOwn p || (s.tookFrame p noisy).station == .offline) = true ↔
        p = s.ownAddr ∨ s.station = .offline := by
      have hisOwn : (s.tookFrame p noisy).isOwn p = s.isOwn p := rfl
      have hstation : (s.tookFrame p noisy).station = s.station := rfl
      rw [hisOwn, hstation]
      simp only [State.isOwn, Bool.or_eq_true, Bool.and_eq_true, bne_iff_ne, beq_iff_eq]
      exact ⟨Or.imp_left And.right, Or.imp_left (⟨hown, ·⟩)⟩
    by_cases hcond : p = s.ownAddr ∨ s.station = .offline
    · simp only [h, if_pos hcond]
      exact if_pos (hsilent.mpr hcond)
    · simp only [h, if_neg hcond]
      exact if_neg (mt hsilent.mp hcond)
  have hrow : exec (.addressClash p noisy) s = .next (refreshAccess (clashTaken h)) := by
    have hlive : exec (.addressClash p noisy) s = .next (refreshAccess (clashRow p noisy s)) := live_eq hears.1.1
    rw [hlive, clashRow, if_neg hown, arrival_taken noisy hears.1 hrange, if_pos hclash]
    exact congrArg (fun t => Host.Outcome.next (refreshAccess t)) htaken
  have hstation : h.station = s.station := by
    simp only [h]
    split
    · rfl
    · exact heard_station s p none noisy
  rw [hrow]
  exact ⟨fun hst => by rw [clashTaken_unconfigured (hstation.trans hst)],
    fun hst => by rw [clashTaken_transmits (hstation.symm ▸ hst)],
    fun hst => by rw [clashTaken_silent (hstation.symm ▸ hst)]⟩

/-! ### A completed attempt -/

/-- What every own arrival does before what its kind does (R95, R140). -/
theorem ownArrival_eq {s : State} {x : Time} (hruns : s.monitor.timersRun = true) (hsilence : s.own.silence = some x)
    (a : Attempt) (noisy : Bool) :
    ownArrival a noisy (framePasses s) =
      ownCompletes a.order a.frame.body.joiningFlag
        { s.passed with
          access := .slotWait, driveFaults := 0, lastSource := s.ownAddr, own := { s.own with silence := some 0 }
          counters := if noisy then (s.counters.bump .framesOwn).bump .noisyFrames
            else s.counters.bump .framesOwn } := by
  have hraw : ownArrival a noisy s.passed = ownCompletes a.order a.frame.body.joiningFlag
      { s.passed with
        access := .slotWait, driveFaults := 0, lastSource := s.ownAddr
        own := { s.own with silence := s.own.silence.map fun _ => 0 }
        counters := if noisy then (s.counters.bump .framesOwn).bump .noisyFrames
          else s.counters.bump .framesOwn } := by cases noisy <;> rfl
  rw [framePasses_eq_passed hruns, hraw, hsilence]
  rfl

/-- Settles O46: an own arrival by the kind of its frame. -/
theorem attemptCompletesAsAnOwnArrival : Obligations.AttemptCompletesAsAnOwnArrival := by
  intro s a noisy x c hreset ha hruns hsilence hconfig own t
  have hrow : exec (.attemptCompletes noisy) s =
      .next (refreshAccess (ownCompletes a.order a.frame.body.joiningFlag t)) := by
    have hlive : exec (.attemptCompletes noisy) s = .next (refreshAccess (attemptCompletesRow noisy s)) := live_eq hreset
    have hcompletes : attemptCompletesRow noisy s = ownArrival a noisy (framePasses s) := by
      simp only [attemptCompletesRow, ha]
    rw [hlive, hcompletes, ownArrival_eq hruns hsilence]
  refine ⟨fun o ho => ?_, fun k n e ho hat hk => ⟨fun hc => ?_, fun hc hst => ?_⟩, fun p ho => ?_,
    fun j l pairs ho hbody => ?_⟩ <;> rw [hrow, ho]
  · rfl
  · subst hk
    have hat' : t.EntryAt n e := hat.congr rfl
    have hwindow : t.windowTime = ms c.window.toNat := by
      rw [State.windowTime, show t.config = some c from hconfig]
    simp only [ownCompletes, ownAskCompletes, hat'.entry, hc, setClaim_at hat', hwindow]
    rfl
  · subst hk
    have hat' : t.EntryAt n e := hat.congr rfl
    simp only [ownCompletes, ownAskCompletes, hat'.entry, hc]
    rw [requestState_transmits (s := t) hst]
    rfl
  · rfl
  · have hlisten : ownPresence j t = { t with
        own := { own with
          present := true, joining := j, presence := some 0
          listen := if s.own.present = false ∧ s.station = .listening then some (ms (8 * c.silenceUnit.toNat))
            else s.own.listen } } := by
      have hhalf : t.halfSilence = ms (8 * c.silenceUnit.toNat) := halfSilence_of_config hconfig
      have hcond : (!t.own.present && t.station == .listening) = true ↔
          s.own.present = false ∧ s.station = .listening := by
        rw [Bool.and_eq_true, Bool.not_eq_true', beq_iff_eq]
        rfl
      simp only [ownPresence, hhalf, hcond]
      rfl
    simp only [ownCompletes, hbody, Body.joiningFlag, hlisten]

end Sys2Proof.Machine

namespace Sys2Proof.Machine

/-! ### The begin of an attempt with the head order -/

/-- What an urgent order is composed to, and when it is discarded (R132, R133, R135). -/
theorem composeUrgent_of_composes {s : State} {o : UrgentOrder} {b : Body} (h : s.Composes (.urgent o) b) :
    composeUrgent s o = some b := by
  cases o with
  | object k =>
    obtain ⟨e, he, ⟨hc, rfl⟩ | ⟨⟨t, hc⟩, rfl⟩⟩ := h <;> simp [composeUrgent, State.objectReason, State.genOf, he, hc]
  | hold k =>
    obtain ⟨e, he, rfl⟩ := h
    simp [composeUrgent, State.genOf, he]
  | free k w =>
    obtain ⟨e, he, rfl⟩ := h
    simp [composeUrgent, State.genOf, he]

theorem composeNormal_of_composes {s : State} {o : NormalOrder} {b : Body} (h : s.Composes (.normal o) b) :
    composeNormal s o = some b := by
  cases o with
  | ask k =>
    obtain ⟨⟨e, t, he, hc⟩, rfl⟩ := h
    simp [composeNormal, (isAsking_iff s k).mpr ⟨e, t, he, hc⟩]
  | presence l => exact congrArg some h.symm
  | post p => exact congrArg some h.symm

/-- An OBJECT order that composes to nothing is discarded (R132). -/
theorem composeUrgent_object_none {s : State} {k : Byte} (h : ∀ c, ¬ s.Composes (.urgent (.object k)) c) :
    composeUrgent s (.object k) = none := by
  cases he : s.entry k with
  | none => simp [composeUrgent, State.objectReason, he]
  | some e =>
    rcases hc : e.claim with _ | ⟨a, d⟩ | (_ | t) | _ | q
    case asking.some => exact absurd ⟨e, he, .inr ⟨⟨t, hc⟩, rfl⟩⟩ (h _)
    case mine => exact absurd ⟨e, he, .inl ⟨hc, rfl⟩⟩ (h _)
    all_goals simp [composeUrgent, State.objectReason, he, hc]

/-- An ASK order of an entry that is not ASKING is discarded (R132). -/
theorem composeNormal_ask_none {s : State} {k : Byte} (h : ∀ c, ¬ s.Composes (.normal (.ask k)) c) :
    composeNormal s (.ask k) = none := by
  have hno : s.isAsking k = false := by
    rw [← Bool.not_eq_true, isAsking_iff]
    exact fun hasking => h _ ⟨hasking, rfl⟩
  simp [composeNormal, hno]

/-- The urgent lane is taken first (R130). -/
theorem beginAttempt_urgent {s : State} {o : UrgentOrder} {rest : List UrgentOrder} {b : Body}
    (hlane : s.urgent = o :: rest) (hb : s.Composes (.urgent o) b) :
    beginAttempt s = { s with urgent := rest, access := begun s (.urgent o) b } := by
  have htake : takeUrgent s s.urgent = (some (.urgent o, b), rest) := by
    simp only [hlane, takeUrgent, composeUrgent_of_composes hb]
  simp only [beginAttempt, htake]
  rfl

theorem beginAttempt_normal {s : State} {o : NormalOrder} {rest : List NormalOrder} {b : Body} (hurgent : s.urgent = [])
    (hlane : s.normal = o :: rest) (hb : s.Composes (.normal o) b) :
    beginAttempt s = { s with normal := rest, access := begun s (.normal o) b } := by
  have hnone : takeUrgent s s.urgent = (none, []) := by rw [hurgent]; rfl
  have htake : takeNormal s s.normal = (some (.normal o, b), rest) := by
    simp only [hlane, takeNormal, composeNormal_of_composes hb]
  simp only [beginAttempt, hnone, htake]
  rw [← hurgent]
  rfl

/-- A lapsed OBJECT order is passed over (R132). -/
theorem beginAttempt_behind_object {s : State} {k : Byte} {o : UrgentOrder} {rest : List UrgentOrder} {b : Body}
    (hlane : s.urgent = .object k :: o :: rest) (hlapsed : ∀ c, ¬ s.Composes (.urgent (.object k)) c)
    (hb : s.Composes (.urgent o) b) :
    beginAttempt s = { s with urgent := rest, access := begun s (.urgent o) b } := by
  have htake : takeUrgent s s.urgent = (some (.urgent o, b), rest) := by
    simp only [hlane, takeUrgent, composeUrgent_object_none hlapsed, composeUrgent_of_composes hb]
  simp only [beginAttempt, htake]
  rfl

/-- With nothing to compose the condition becomes EMPTY (R132). -/
theorem beginAttempt_lapsed {s : State} {k : Byte} (hurgent : s.urgent = []) (hlane : s.normal = [.ask k])
    (hlapsed : ∀ c, ¬ s.Composes (.normal (.ask k)) c) :
    beginAttempt s = { s with normal := [], access := .empty } := by
  have hnone : takeUrgent s s.urgent = (none, []) := by rw [hurgent]; rfl
  have htake : takeNormal s s.normal = (none, []) := by
    simp only [hlane, takeNormal, composeNormal_ask_none hlapsed]
  simp only [beginAttempt, hnone, htake]
  rw [← hurgent]

theorem beginAttempt_empty {s : State} (hurgent : s.urgent = []) (hnormal : s.normal = []) :
    beginAttempt s = { s with access := .empty } := by
  have hnone : takeUrgent s s.urgent = (none, []) := by rw [hurgent]; rfl
  have hnone' : takeNormal s s.normal = (none, []) := by rw [hnormal]; rfl
  simp only [beginAttempt, hnone, hnone']
  rw [← hurgent, ← hnormal]

/-! ### What an attempt's begin reads -/

/-- A begin reads the orders, the entries, the own address and the station state. -/
theorem composeUrgent_congr {s t : State} (htable : t.table = s.table) (hown : t.ownAddr = s.ownAddr) (o : UrgentOrder) :
    composeUrgent t o = composeUrgent s o := by
  cases o <;> simp only [composeUrgent, State.objectReason, State.genOf, State.entry, htable, hown]

theorem composeNormal_congr {s t : State} (htable : t.table = s.table) (hstation : t.station = s.station)
    (o : NormalOrder) : composeNormal t o = composeNormal s o := by
  have hasking (k : Byte) : t.isAsking k = s.isAsking k := by rw [State.isAsking, State.isAsking, entry_congr htable]
  have hpairs : t.minePairs = s.minePairs := by
    simp only [State.minePairs, State.keysAscending, State.entry, htable]
  cases o with
  | ask k => simp only [composeNormal, hasking]
  | presence l => simp only [composeNormal, hstation, hpairs]
  | post p => rfl

theorem takeUrgent_congr {s t : State} (h : ∀ o, composeUrgent t o = composeUrgent s o) (l : List UrgentOrder) :
    takeUrgent t l = takeUrgent s l := by
  induction l with
  | nil => rfl
  | cons o l ih => simp only [takeUrgent, h, ih]

theorem takeNormal_congr {s t : State} (h : ∀ o, composeNormal t o = composeNormal s o) (l : List NormalOrder) :
    takeNormal t l = takeNormal s l := by
  induction l with
  | nil => rfl
  | cons o l ih => simp only [takeNormal, h, ih]

/-- The begin of an attempt does not read the monitor. -/
theorem beginAttempt_monitor (m : Monitor) (s : State) :
    beginAttempt { s with monitor := m } = { beginAttempt s with monitor := m } := by
  have hu := takeUrgent_congr (s := s) (t := { s with monitor := m }) (composeUrgent_congr rfl rfl) s.urgent
  have hn := takeNormal_congr (s := s) (t := { s with monitor := m }) (composeNormal_congr rfl rfl) s.normal
  simp only [beginAttempt, hu, hn]
  rcases takeUrgent s s.urgent with ⟨_ | ⟨o, b⟩, rest⟩
  · rcases takeNormal s s.normal with ⟨_ | ⟨o, b⟩, rest'⟩ <;> rfl
  · rfl

/-! ### The idle age -/

/-- A waiting station begins at this idle age (R105, R130). -/
def State.beginsAt (s : State) (age : Nat) : Prop :=
  (s.access = .slotWait ∧ (age = s.slot ∨ 43 ≤ age)) ∨ (s.access = .openWait ∧ 43 ≤ age)

theorem slotReached_begins {s : State} {age : Nat} (h : s.beginsAt age) : slotReached age s = beginAttempt s := by
  rcases h with ⟨ha, hage⟩ | ⟨ha, hage⟩
  · simp only [slotReached, ha]
    exact if_pos hage
  · simp only [slotReached, ha]
    exact if_pos hage

theorem slotReached_stays {s : State} {age : Nat} (h : ¬ s.beginsAt age) : slotReached age s = s := by
  rw [State.beginsAt, not_or] at h
  obtain ⟨hslot, hopen⟩ := h
  cases ha : s.access with
  | slotWait =>
    simp only [slotReached, ha]
    exact if_neg fun hage => hslot ⟨ha, hage⟩
  | openWait =>
    simp only [slotReached, ha]
    exact if_neg fun hage => hopen ⟨ha, hage⟩
  | _ => simp only [slotReached, ha]

/-- Only a station in SLOT_WAIT or OPEN_WAIT begins. -/
theorem not_beginsAt {s : State} (hslot : s.access ≠ .slotWait) (hopen : s.access ≠ .openWait) (age : Nat) :
    ¬ s.beginsAt age := fun h => h.elim (fun h => hslot h.1) fun h => hopen h.1

theorem gapReached_eq (s : State) :
    gapReached s = (match s.decoder with
      | .assembling _ => { s with decoder := .waiting, lastSource := 0, counters := s.counters.bump .broken }
      | _ => { s with decoder := .waiting }) := by
  rcases hd : s.decoder with _ | d | _ <;> simp only [gapReached, hd]
  · rw [← hd]
  · rfl

/-- A state at an idle age of its own is as it is. -/
theorem agedTo_self {s : State} {elapsed age : Nat} (h : s.monitor = .idle elapsed age) : agedTo elapsed age age s = s := by
  rw [agedTo, if_neg (by omega), ← h]

/-- The gap limit is handed on at the age where it lies (R87, R105). -/
theorem agedTo_eq_gapReached {elapsed age age' : Nat} (h : age < 4 ∧ 4 ≤ age') (s : State) :
    agedTo elapsed age age' s = gapReached { s with monitor := .idle elapsed age' } := by
  rw [agedTo, if_pos h]
  exact (gapReached_eq { s with monitor := .idle elapsed age' }).symm

theorem agedTo_eq_behind {elapsed age age' : Nat} (h : ¬(age < 4 ∧ 4 ≤ age')) (s : State) :
    agedTo elapsed age age' s = { s with monitor := .idle elapsed age' } := by
  rw [agedTo, if_neg h]

@[simp] theorem agedTo_monitor (elapsed age age' : Nat) (s : State) :
    (agedTo elapsed age age' s).monitor = .idle elapsed age' := by
  by_cases h : age < 4 ∧ 4 ≤ age'
  · rw [agedTo_eq_gapReached h, gapReached_eq]
    cases s.decoder <;> rfl
  · rw [agedTo_eq_behind h]

/-- Ageing changes the monitor, the decoder, last_source and the counters alone. -/
theorem agedTo_eq (elapsed age age' : Nat) (s : State) :
    agedTo elapsed age age' s =
      { s with
        monitor := .idle elapsed age', decoder := (agedTo elapsed age age' s).decoder
        lastSource := (agedTo elapsed age age' s).lastSource, counters := (agedTo elapsed age age' s).counters } := by
  by_cases h : age < 4 ∧ 4 ≤ age'
  · rw [agedTo_eq_gapReached h, gapReached_eq]
    cases s.decoder <;> rfl
  · rw [agedTo_eq_behind h]

@[simp] theorem agedTo_access (elapsed age age' : Nat) (s : State) : (agedTo elapsed age age' s).access = s.access := by
  rw [agedTo_eq]
@[simp] theorem agedTo_urgent (elapsed age age' : Nat) (s : State) : (agedTo elapsed age age' s).urgent = s.urgent := by
  rw [agedTo_eq]
@[simp] theorem agedTo_normal (elapsed age age' : Nat) (s : State) : (agedTo elapsed age age' s).normal = s.normal := by
  rw [agedTo_eq]
@[simp] theorem agedTo_ownAddr (elapsed age age' : Nat) (s : State) :
    (agedTo elapsed age age' s).ownAddr = s.ownAddr := by rw [agedTo_eq]
@[simp] theorem agedTo_receiver (elapsed age age' : Nat) (s : State) :
    (agedTo elapsed age age' s).receiver = s.receiver := by rw [agedTo_eq]

/-- Ageing does not read the Access Engine's condition. -/
theorem agedTo_withAccess (elapsed age age' : Nat) (x : Access) (s : State) :
    agedTo elapsed age age' { s with access := x } = { agedTo elapsed age age' s with access := x } := by
  by_cases h : age < 4 ∧ 4 ≤ age'
  · rw [agedTo_eq_gapReached h, agedTo_eq_gapReached h, gapReached_eq, gapReached_eq]
    cases s.decoder <;> rfl
  · rw [agedTo_eq_behind h, agedTo_eq_behind h]

/-- Ageing in two parts. -/
theorem agedTo_agedTo {elapsed a b c : Nat} (hab : a ≤ b) (hbc : b ≤ c) (s : State) :
    agedTo elapsed b c (agedTo elapsed a b s) = agedTo elapsed a c s := by
  by_cases hb : a < 4 ∧ 4 ≤ b
  · have hc : a < 4 ∧ 4 ≤ c := ⟨hb.1, hb.2.trans hbc⟩
    rw [agedTo_eq_behind (by omega), agedTo_eq_gapReached hb, agedTo_eq_gapReached hc, gapReached_eq, gapReached_eq]
    rcases s.decoder with _ | d | _ <;> rfl
  · rw [agedTo_eq_behind hb]
    by_cases hc : b < 4 ∧ 4 ≤ c
    · rw [agedTo_eq_gapReached hc, agedTo_eq_gapReached (age := a) ⟨hab.trans_lt hc.1, hc.2⟩]
    · rw [agedTo_eq_behind hc, agedTo_eq_behind (by omega)]

/-- One more idle age: it is handed on to the decoder and to the Access Engine (R105). -/
theorem nextAge_eq {s : State} {elapsed age : Nat} (h : s.monitor = .idle elapsed age) :
    nextAge s = slotReached (age + 1) (agedTo elapsed age (age + 1) s) := by
  simp only [nextAge, h]
  split
  · next h4 => rw [agedTo_eq_gapReached (by omega)]
  · next h4 => rw [agedTo_eq_behind (by omega)]

/-- A run of idle ages at none of which the station begins. -/
theorem nextAges_quiet {elapsed : Nat} (n : Nat) {age : Nat} {s : State} (h : s.monitor = .idle elapsed age)
    (hquiet : ∀ m, age < m → m ≤ age + n → ¬ (agedTo elapsed age m s).beginsAt m) :
    nextAges n s = agedTo elapsed age (age + n) s := by
  induction n generalizing age s with
  | zero => exact (agedTo_self h).symm
  | succ n ih =>
    have hnext : nextAge s = agedTo elapsed age (age + 1) s := by
      rw [nextAge_eq h, slotReached_stays (hquiet _ (by omega) (by omega))]
    rw [nextAges, hnext, ih (agedTo_monitor elapsed age (age + 1) s), agedTo_agedTo (by omega) (by omega),
      Nat.add_assoc, Nat.add_comm 1]
    intro m hm hle
    rw [agedTo_agedTo (by omega) (by omega)]
    exact hquiet m (by omega) (by omega)

theorem nextAges_add (m n : Nat) (s : State) : nextAges (m + n) s = nextAges n (nextAges m s) := by
  induction m generalizing s with
  | zero => rw [Nat.zero_add]; rfl
  | succ m ih => rw [Nat.add_right_comm, nextAges, ih, nextAges]

/-- Ageing behind the gap limit commutes with the begin of an attempt. -/
theorem agedTo_beginAttempt {elapsed a b : Nat} (h : 4 ≤ a) (s : State) :
    agedTo elapsed a b (beginAttempt s) = beginAttempt (agedTo elapsed a b s) := by
  rw [agedTo_eq_behind (by omega), agedTo_eq_behind (by omega)]
  exact (beginAttempt_monitor (.idle elapsed b) s).symm

/-- A station that has begun, or found nothing to compose, does not wait. -/
theorem beginAttempt_access (s : State) :
    (beginAttempt s).access ≠ .slotWait ∧ (beginAttempt s).access ≠ .openWait := by
  rcases beginAttempt_cases s with ⟨_, _, _, _, -, -, -, h⟩ | ⟨-, _, _, _, _, -, -, -, h⟩ | ⟨-, -, h⟩ <;> rw [h] <;>
    exact ⟨nofun, nofun⟩

/-- A run of idle ages at one of which, `m`, the station begins, and at none before. -/
theorem nextAges_begins {elapsed n m age : Nat} {s : State} (h : s.monitor = .idle elapsed age)
    (hafter : age < m) (hwithin : m ≤ age + n) (hgap : 4 ≤ m) (hbegins : (agedTo elapsed age m s).beginsAt m)
    (hquiet : ∀ i, age < i → i < m → ¬ (agedTo elapsed age i s).beginsAt i) :
    nextAges n s = beginAttempt (agedTo elapsed age (age + n) s) := by
  obtain ⟨j, rfl⟩ := Nat.exists_eq_add_of_lt hafter
  obtain ⟨k, rfl⟩ : ∃ k, n = j + (1 + k) := ⟨n - (j + 1), by omega⟩
  have hbefore : nextAges j s = agedTo elapsed age (age + j) s :=
    nextAges_quiet j h fun i hi hle => hquiet i hi (by omega)
  have hat : nextAge (agedTo elapsed age (age + j) s) = beginAttempt (agedTo elapsed age (age + j + 1) s) := by
    rw [nextAge_eq (agedTo_monitor _ _ _ _), agedTo_agedTo (by omega) (by omega), slotReached_begins hbegins]
  have hmonitor : (beginAttempt (agedTo elapsed age (age + j + 1) s)).monitor = .idle elapsed (age + j + 1) := by
    rw [beginAttempt_eq]
    exact agedTo_monitor _ _ _ _
  have hwaits := beginAttempt_access (agedTo elapsed age (age + j + 1) s)
  have hrest := nextAges_quiet k hmonitor fun i _ _ => not_beginsAt (by rw [agedTo_access]; exact hwaits.1)
    (by rw [agedTo_access]; exact hwaits.2) i
  have hone : nextAges (1 + k) (agedTo elapsed age (age + j) s) =
      nextAges k (nextAge (agedTo elapsed age (age + j) s)) := by rw [Nat.add_comm]; rfl
  rw [nextAges_add, hbefore, hone, hat, hrest, agedTo_beginAttempt hgap, agedTo_agedTo (by omega) (by omega)]
  congr 2
  omega

/-! ### The idle age brought up to date -/

theorem slot_of_lastSource {s t : State} (hown : t.ownAddr = s.ownAddr) (hlast : t.lastSource = s.lastSource) :
    t.slot = s.slot := by rw [State.slot, State.slot, State.rank, State.rank, hown, hlast]

/-- Behind the gap limit the slot stays. -/
theorem agedTo_slot {elapsed a b c : Nat} (hab : a ≤ b) (hbc : b ≤ c) (hgap : 4 ≤ b) (s : State) :
    (agedTo elapsed a b s).slot = (agedTo elapsed a c s).slot := by
  rw [← agedTo_agedTo (elapsed := elapsed) hab hbc s,
    agedTo_eq_behind (age := b) (age' := c) (by omega)]
  rfl

/-- The idle age does not lag behind the elapsed time. -/
theorem catchUp_in_step {s : State} (h : ∀ elapsed age, s.monitor = .idle elapsed age → elapsed / 8 ≤ age) :
    catchUp s = s := by
  cases hm : s.monitor with
  | idle elapsed age =>
    simp only [catchUp, hm, Nat.sub_eq_zero_of_le (h elapsed age hm)]
    rfl
  | _ => simp only [catchUp, hm]

section CatchUp

variable {s : State} {elapsed age : Nat} (h : s.monitor = .idle elapsed age)
include h

theorem catchUp_eq : catchUp s = nextAges (elapsed / 8 - age) s := by simp only [catchUp, h]

/-- A station that does not begin on the way (R105, R130). -/
theorem catchUp_quiet (hquiet : ¬ BeginsBetween age (elapsed / 8) (agedTo elapsed age (max age (elapsed / 8)) s)) :
    catchUp s = agedTo elapsed age (max age (elapsed / 8)) s := by
  have hmax : age + (elapsed / 8 - age) = max age (elapsed / 8) := by omega
  rw [catchUp_eq h, nextAges_quiet (elapsed / 8 - age) h, hmax]
  intro m hm hle hbegins
  have hlate : age < elapsed / 8 := by omega
  rw [Nat.max_eq_right hlate.le] at hquiet
  refine hquiet ⟨hlate, ?_⟩
  obtain ⟨-, hlow, hhigh⟩ := (agedTo elapsed age m s).slot_bounds
  rcases hbegins with ⟨ha, hage⟩ | ⟨ha, hage⟩
  · rw [agedTo_access] at ha
    have h4 : 4 ≤ m := by omega
    rw [agedTo_slot (c := elapsed / 8) hm.le (by omega) h4] at hage hlow hhigh
    simp only [agedTo_access, ha, true_and, reduceCtorEq, false_or]
    omega
  · rw [agedTo_access] at ha
    simp only [agedTo_access, ha, reduceCtorEq, false_and, or_false, true_and, false_or]
    omega

/-- A station that begins on the way begins with what stands in its lanes (R105, R130). -/
theorem catchUp_begins (hbegins : BeginsBetween age (elapsed / 8) (agedTo elapsed age (max age (elapsed / 8)) s)) :
    catchUp s = beginAttempt (agedTo elapsed age (max age (elapsed / 8)) s) := by
  obtain ⟨hlate, hwhen⟩ := hbegins
  have hage : age + (elapsed / 8 - age) = elapsed / 8 := by omega
  rw [Nat.max_eq_right hlate.le] at hwhen ⊢
  have hslot (m : Nat) (hm : age < m) (hle : m ≤ elapsed / 8) (h4 : 4 ≤ m) :
      (agedTo elapsed age m s).slot = (agedTo elapsed age (elapsed / 8) s).slot := agedTo_slot hm.le hle h4 s
  obtain ⟨-, hlow, hhigh⟩ := (agedTo elapsed age (elapsed / 8) s).slot_bounds
  have hearly (m : Nat) : 12 ≤ (agedTo elapsed age m s).slot := ((agedTo elapsed age m s).slot_bounds).2.1
  have hbegin (m : Nat) (hm : age < m) (hle : m ≤ elapsed / 8) (h4 : 4 ≤ m)
      (hat : (agedTo elapsed age m s).beginsAt m)
      (hbefore : ∀ i, age < i → i < m → ¬ (agedTo elapsed age i s).beginsAt i) :
      catchUp s = beginAttempt (agedTo elapsed age (elapsed / 8) s) := by
    rw [catchUp_eq h, nextAges_begins h hm (by omega) h4 hat hbefore, hage]
  have hwait (m : Nat) : (agedTo elapsed age m s).access = (agedTo elapsed age (elapsed / 8) s).access := by
    rw [agedTo_access, agedTo_access]
  rcases hwhen with ⟨ha, hbefore, hreached⟩ | ⟨ha, hopen⟩
  · refine hbegin _ hbefore hreached (by omega) (.inl ⟨(hwait _).trans ha, .inl ?_⟩) fun i hi hlt hat => ?_
    · rw [hslot _ hbefore hreached (by omega)]
    · rcases hat with ⟨-, hi' | hi'⟩ | ⟨hi', -⟩
      · have h12 := hearly i
        rw [hslot i hi (by omega) (by omega)] at hi'
        omega
      · omega
      · rw [hwait, ha] at hi'
        cases hi'
  · refine hbegin (max 43 (age + 1)) (by omega) (by omega) (by omega) ?_ fun i hi hlt hat => ?_
    · rcases ha with ha | ⟨ha, -⟩
      · exact .inr ⟨(hwait _).trans ha, by omega⟩
      · exact .inl ⟨(hwait _).trans ha, .inr (by omega)⟩
    · rcases hat with ⟨hi', hslotted | h43⟩ | ⟨-, h43⟩
      · rcases ha with ha | ⟨-, hreached⟩
        · rw [hwait, ha] at hi'
          cases hi'
        · have h12 := hearly i
          rw [hslot i hi (by omega) (by omega)] at hslotted
          omega
      · omega
      · omega

end CatchUp

end Sys2Proof.Machine

namespace Sys2Proof.Machine

/-! ### The condition follows the lanes -/

theorem refreshAccess_off {s : State} (h : s.access = .off) : refreshAccess s = s := by
  simp only [refreshAccess, h]

theorem refreshAccess_driving {s : State} {a : Attempt} (h : s.access = .driving a) : refreshAccess s = s := by
  simp only [refreshAccess, h]

theorem noOrders_of_empty {s : State} (hu : s.urgent = []) (hn : s.normal = []) : s.noOrders = true := by
  simp [State.noOrders, hu, hn]

theorem noOrders_of_nonempty {s : State} (h : s.urgent ≠ [] ∨ s.normal ≠ []) : s.noOrders = false := by
  rw [State.noOrders, Bool.and_eq_false_iff, List.isEmpty_eq_false_iff, List.isEmpty_eq_false_iff]
  exact h

/-- With both lanes empty the condition of a ready station is EMPTY (R128). -/
theorem refreshAccess_no_orders {s : State} (ha : s.access = .empty ∨ s.access = .slotWait ∨ s.access = .openWait)
    (h : s.noOrders = true) : refreshAccess s = { s with access := .empty } := by
  rcases ha with ha | ha | ha
  · simp only [refreshAccess, ha, h]
    rw [← ha]
    rfl
  · simp only [refreshAccess, ha, h]
    rfl
  · simp only [refreshAccess, ha, h]
    rfl

/-- An order that joins empty lanes sets the condition by the slot (R130). -/
theorem refreshAccess_joined {s : State} (ha : s.access = .empty) (h : s.noOrders = false) :
    refreshAccess s = { s with access := s.readyCondition } := by
  simp only [refreshAccess, ha, h]
  rfl

theorem refreshAccess_waiting {s : State} (ha : s.access = .slotWait ∨ s.access = .openWait) (h : s.noOrders = false) :
    refreshAccess s = s := by
  rcases ha with ha | ha <;> simp only [refreshAccess, ha, h] <;> rfl

/-! ### ATTEMPT_BEGIN at the slot or on the open line -/

/-- The target age behind the gap limit is reached with no age handed on (R105). -/
theorem bringAge_behind_gap {s : State} {elapsed age : Nat} (h : s.monitor = .idle elapsed age) (hgap : 4 ≤ age)
    (target : Nat) : bringAge target s = { s with monitor := .idle (max elapsed (8 * target)) (max age target) } := by
  simp only [bringAge, h]
  exact if_neg fun hcross => absurd hcross.1 (Nat.not_lt.mpr hgap)

/-- The target of ATTEMPT_BEGIN is the state's own age behind the gap limit. -/
theorem bringAge_own {s : State} {elapsed age : Nat} (h : s.monitor = .idle elapsed age) (hgap : 4 ≤ age)
    (hstep : 8 * age ≤ elapsed) : bringAge age s = s := by
  rw [bringAge_behind_gap h hgap, Nat.max_eq_left hstep, Nat.max_self, ← h]

/-- The age at which the row begins, where the station waits at its slot or on the open line (R130; log 10). -/
theorem beginAge_eq {s : State} {age target : Nat}
    (h : (s.access = .slotWait ∧ age < s.slot ∧ target = s.slot) ∨
      ((s.access = .openWait ∨ (s.access = .slotWait ∧ s.slot ≤ age)) ∧ target = max age 43)) :
    max age (s.beginAge age) = target := by
  rcases h with ⟨ha, hage, rfl⟩ | ⟨ha | ⟨ha, hage⟩, rfl⟩
  · simp only [State.beginAge, ha, if_pos hage]
    exact Nat.max_eq_right hage.le
  · simp only [State.beginAge, ha]
    rfl
  · simp only [State.beginAge, ha, if_neg (Nat.not_lt.mpr hage)]
    rfl

/-- ATTEMPT_BEGIN behind the gap limit begins at the target age (R130). -/
theorem exec_attemptBegin {s : State} {elapsed age target : Nat} (hr : s.inReset = false)
    (hm : s.monitor = .idle elapsed age) (hgap : 4 ≤ age) (hstep : 8 * age ≤ elapsed)
    (hopen : s.receiver.isStarting = false) (htransmits : s.station.transmits = true)
    (hlanes : s.urgent ≠ [] ∨ s.normal ≠ [])
    (htarget : (s.access = .slotWait ∧ age < s.slot ∧ target = s.slot) ∨
      ((s.access = .openWait ∨ (s.access = .slotWait ∧ s.slot ≤ age)) ∧ target = max age 43)) :
    exec .attemptBegin s = .next (refreshAccess
      (beginAttempt { s with monitor := .idle (max elapsed (8 * target)) target })) := by
  have hwaits : s.isWaiting = true := by
    have ha : s.access = .slotWait ∨ s.access = .openWait := by
      rcases htarget with ⟨ha, -⟩ | ⟨ha | ⟨ha, -⟩, -⟩
      · exact .inl ha
      · exact .inr ha
      · exact .inl ha
    rcases ha with ha | ha <;> simp [State.isWaiting, ha, noOrders_of_nonempty hlanes]
  have hage : bringAge (s.beginAge age) s = { s with monitor := .idle (max elapsed (8 * target)) target } := by
    rw [bringAge_behind_gap hm hgap, beginAge_eq htarget]
    have hmax : max elapsed (8 * s.beginAge age) = max elapsed (8 * target) := by
      have := beginAge_eq htarget
      omega
    rw [hmax]
  have hrow : attemptBeginRow s = beginAttempt { s with monitor := .idle (max elapsed (8 * target)) target } := by
    simp only [attemptBeginRow, hm, hwaits, htransmits, hopen, Nat.max_eq_left hgap, Bool.not_false, Bool.true_or,
      Bool.and_self, if_true]
    rw [bringAge_own hm hgap hstep, hage]
  exact (live_eq hr).trans (by rw [hrow])

/-- What an order composes to does not depend on the monitor. -/
theorem composes_monitor {s : State} {m : Monitor} {o : Order} {b : Body} :
    ({ s with monitor := m } : State).Composes o b ↔ s.Composes o b := by
  rcases o with (k | k | ⟨k, w⟩) | k | l | p <;> exact Iff.rfl

/-- Settles O44: the condition follows the lanes by cases of the condition, and ATTEMPT_BEGIN behind the gap limit
is `beginAttempt` at the target age, where the head order that composes is taken. -/
theorem attemptBeginsWithTheHeadOrder : Obligations.AttemptBeginsWithTheHeadOrder := by
  refine ⟨fun s => ⟨?_, fun ha => ⟨fun ⟨hu, hn⟩ => refreshAccess_no_orders ha (noOrders_of_empty hu hn), fun h => ?_⟩⟩,
    ?_⟩
  · rintro (ha | ⟨a, ha⟩)
    · exact refreshAccess_off ha
    · exact refreshAccess_driving ha
  · have horders := noOrders_of_nonempty h
    rcases ha with ha | ha
    · rw [refreshAccess_joined ha horders, State.readyCondition, ha]
      cases s.monitor <;> rfl
    · rcases ha with ha | ha
      · rw [refreshAccess_waiting (.inl ha) horders]
        simp only [ha]
        rw [← ha]
      · rw [refreshAccess_waiting (.inr ha) horders]
        simp only [ha]
        rw [← ha]
  · intro s elapsed age target hr hm hgap hstep hopen htransmits htarget
    have hexec := fun hlanes => exec_attemptBegin hr hm hgap hstep hopen htransmits hlanes htarget
    refine ⟨fun o rest b hu hb => ?_, fun o rest b hu hn hb => ?_, fun k o rest b hu hno hb => ?_,
      fun k hu hn hno => ?_⟩
    · rw [hexec (.inl (by rw [hu]; exact List.cons_ne_nil _ _)),
        beginAttempt_urgent (s := { s with monitor := .idle (max elapsed (8 * target)) target }) hu (composes_monitor.mpr hb)]
      exact congrArg Host.Outcome.next (refreshAccess_driving rfl)
    · rw [hexec (.inr (by rw [hn]; exact List.cons_ne_nil _ _)),
        beginAttempt_normal (s := { s with monitor := .idle (max elapsed (8 * target)) target }) hu hn (composes_monitor.mpr hb)]
      exact congrArg Host.Outcome.next (refreshAccess_driving rfl)
    · rw [hexec (.inl (by rw [hu]; exact List.cons_ne_nil _ _)),
        beginAttempt_behind_object (s := { s with monitor := .idle (max elapsed (8 * target)) target }) hu
          (fun c hc => hno c (composes_monitor.mp hc)) (composes_monitor.mpr hb)]
      exact congrArg Host.Outcome.next (refreshAccess_driving rfl)
    · rw [hexec (.inr (by rw [hn]; exact List.cons_ne_nil _ _)),
        beginAttempt_lapsed (s := { s with monitor := .idle (max elapsed (8 * target)) target }) hu hn (fun c hc => hno c (composes_monitor.mp hc))]
      exact congrArg Host.Outcome.next (refreshAccess_no_orders (.inl rfl) (noOrders_of_empty hu rfl))

end Sys2Proof.Machine

namespace Sys2Proof.Machine

/-! ### The line beside an attempt's end

What ends an attempt reads neither the Line Receiver nor the Line Monitor, so the line may be set before or behind
it. -/

/-- The state with the fields of the line set: RESET_N low or not, the receiver, the monitor, the dominant run. -/
def State.onLine (s : State) (low : Bool) (r : Receiver) (m : Monitor) (run : Option Nat) (mark : Bool) : State :=
  { s with inReset := low, receiver := r, monitor := m, run := run, longMark := mark }

/-- An operation that leaves the line as it is and does not read it. -/
def LineBlind (f : State → State) : Prop :=
  ∀ s low r m run mark, f (s.onLine low r m run mark) = (f s).onLine low r m run mark

namespace LineBlind

theorem comp {f g : State → State} (hf : LineBlind f) (hg : LineBlind g) : LineBlind fun s => f (g s) :=
  fun s low r m run mark => (congrArg f (hg s low r m run mark)).trans (hf (g s) low r m run mark)

/-- Operations taken in turn. -/
theorem foldl {α : Type} {f : State → α → State} (h : ∀ x, LineBlind fun s => f s x) (l : List α) :
    LineBlind fun s => l.foldl f s := by
  intro s low r m run mark
  induction l generalizing s with
  | nil => rfl
  | cons x l ih => exact (congrArg (l.foldl f) (h x s low r m run mark)).trans (ih (f s x))

theorem keeps {f : State → State} (h : LineBlind f) (s : State) :
    (f s).inReset = s.inReset ∧ (f s).receiver = s.receiver ∧ (f s).monitor = s.monitor := by
  have hsame : f s = (f s).onLine s.inReset s.receiver s.monitor s.run s.longMark :=
    h s s.inReset s.receiver s.monitor s.run s.longMark
  rw [hsame]
  exact ⟨rfl, rfl, rfl⟩

end LineBlind

theorem produce_lineBlind (n : Notice) : LineBlind (produce n) := by
  intro s low r m run mark
  rw [produce_eq_of_congr (s := s) (t := s.onLine low r m run mark) rfl rfl rfl, produce_eq n s]
  rfl

theorem muteKey_lineBlind (k : Byte) : LineBlind (muteKey k) := by
  intro s low r m run mark
  have hentry : (s.onLine low r m run mark).entry k = s.entry k := rfl
  have hproduce (n : Notice) (f : Entry → Entry) :
      produce n (setEntry k f (s.onLine low r m run mark)) = (produce n (setEntry k f s)).onLine low r m run mark :=
    produce_lineBlind n (setEntry k f s) low r m run mark
  have hboth (n : Notice) :
      produce n (setWant k .none (setClaim k .free (s.onLine low r m run mark))) =
        (produce n (setWant k .none (setClaim k .free s))).onLine low r m run mark :=
    produce_lineBlind n (setWant k .none (setClaim k .free s)) low r m run mark
  cases he : s.entry k with
  | none =>
    simp only [muteKey, hentry, he]
  | some e =>
    cases hc : e.claim with
    | mine =>
      simp only [muteKey, hentry, he, hc]
      exact hboth _
    | asking w =>
      simp only [muteKey, hentry, he, hc]
      exact hboth _
    | free | peerAsking a d | theirs q =>
      simp only [muteKey, hentry, he, hc]
      by_cases hw : e.want = .wait
      · rw [if_pos hw, if_pos hw]
        exact hproduce _ _
      · rw [if_neg hw, if_neg hw]

theorem stopTransmitting_lineBlind : LineBlind stopTransmitting := fun s =>
  LineBlind.foldl (fun p : Post => produce_lineBlind (.postAbandoned p.tag)) s.givenUp
    { s with urgent := [], normal := [], access := .off, driveFaults := 0 }

theorem enterMute_lineBlind (cause : LineFault) : LineBlind (enterMute cause) := by
  intro s low r m run mark
  let muted : State := { s with station := .mute, leaveLimit := none }
  have hstop := stopTransmitting_lineBlind muted low r m run mark
  have hkeys := LineBlind.foldl muteKey_lineBlind (stopTransmitting muted).keysAscending (stopTransmitting muted) low r m
    run mark
  have hdrop := produce_lineBlind (.lineFault cause)
    (dropOwn (overKeys muteKey (stopTransmitting muted).keysAscending (stopTransmitting muted))) low r m run mark
  have hrest (t : State) (h : t = (stopTransmitting muted).onLine low r m run mark) :
      produce (.lineFault cause) (dropOwn (overKeys muteKey t.keysAscending t)) =
        (enterMute cause s).onLine low r m run mark := by
    subst h
    refine Eq.trans (congrArg (fun u => produce (.lineFault cause) (dropOwn u)) hkeys) hdrop
  exact hrest _ hstop

theorem onLine_ite (c : Prop) [Decidable c] (s t : State) (low : Bool) (r : Receiver) (m : Monitor) (run : Option Nat)
    (mark : Bool) : (if c then s.onLine low r m run mark else t.onLine low r m run mark) =
      (if c then s else t).onLine low r m run mark :=
  (apply_ite (fun t : State => t.onLine low r m run mark) c s t).symm

theorem handBack_lineBlind (o : Order) : LineBlind (handBack o) := by
  intro s low r m run mark
  have hsame : (s.onLine low r m run mark).TakesBack o ↔ s.TakesBack o := by
    rcases o with (k | k | ⟨k, w⟩) | k | l | p <;> exact Iff.rfl
  by_cases h : s.TakesBack o
  · exact (handBack_of_takesBack (hsame.mpr h)).trans (congrArg (·.onLine low r m run mark) (handBack_of_takesBack h).symm)
  · exact (handBack_of_not_takesBack fun h' => h (hsame.mp h')).trans
      (congrArg (·.onLine low r m run mark) (handBack_of_not_takesBack h).symm)

theorem endInDriveFault_lineBlind (a : Attempt) : LineBlind (endInDriveFault a) := by
  intro s low r m run mark
  let d : State := { count .driveFaults s with driveFaults := s.driveFaults + 1 }
  have hback := handBack_lineBlind a.order d low r m run mark
  have hmute := enterMute_lineBlind .drive d low r m run mark
  exact (ite_congr rfl (fun _ => hback) fun _ => hmute).trans
    (onLine_ite (d.driveFaults < d.retryLimit) _ _ _ _ _ _ _)

/-! ### How far an attempt has come does not matter at its end -/

theorem stopTransmitting_access {s : State} {x : Access} (h : x.attempt.map (·.order) = s.slotOrder) :
    stopTransmitting { s with access := x } = stopTransmitting s := by
  have hslot : ({ s with access := x } : State).slotPost = s.slotPost := by
    have horder : ({ s with access := x } : State).slotOrder = s.slotOrder := h
    rw [State.slotPost, State.slotPost, horder]
  have hposts : ({ s with access := x } : State).givenUp = s.givenUp := by rw [State.givenUp, State.givenUp, hslot]
  rw [stopTransmitting, stopTransmitting, hposts]

/-- The end of an attempt reads its order alone. -/
theorem endInDriveFault_attempt {s : State} {a b : Attempt} (ha : s.access = .driving a) (ho : b.order = a.order) :
    endInDriveFault b { s with access := .driving b } = endInDriveFault a s := by
  let d : State := { count .driveFaults s with driveFaults := s.driveFaults + 1 }
  have hslot : (Access.driving b).attempt.map (·.order) = ({ d with station := .mute, leaveLimit := none } : State).slotOrder := by
    rw [State.slotOrder]
    show some b.order = s.access.attempt.map (·.order)
    rw [ha, ho]
    rfl
  have hmute : enterMute .drive { d with access := .driving b } = enterMute .drive d := by
    have hstop := stopTransmitting_access (s := { d with station := .mute, leaveLimit := none }) hslot
    exact congrArg (fun t : State => produce (.lineFault .drive) (dropOwn (overKeys muteKey t.keysAscending t))) hstop
  have hback : handBack b.order { d with access := .driving b } = handBack a.order d := by
    rw [ho]
    rfl
  exact ite_congr rfl (fun _ => hback) fun _ => hmute

theorem muteKey_access (k : Byte) (s : State) : (muteKey k s).access = s.access := by
  rw [muteKey]
  split
  · rfl
  · split
    · exact produce_access _ _
    · exact produce_access _ _
    · split
      · exact produce_access _ _
      · rfl

/-- In MUTE the Access Engine is OFF. -/
theorem enterMute_access (cause : LineFault) (s : State) : (enterMute cause s).access = .off := by
  let stopped : State := stopTransmitting { s with station := .mute, leaveLimit := none }
  have hstopped : stopped.access = .off := congrArg State.access (stopTransmitting_eq _)
  calc (enterMute cause s).access = (overKeys muteKey stopped.keysAscending stopped).access := produce_access _ _
    _ = stopped.access := overKeys_keeps State.access muteKey_access _ _
    _ = .off := hstopped

/-- Behind a drive fault the station waits, or is OFF. -/
theorem endInDriveFault_access (a : Attempt) (s : State) :
    (endInDriveFault a s).access = .slotWait ∨ (endInDriveFault a s).access = .off := by
  rw [endInDriveFault]
  split
  · left
    rcases handBack_cases a.order { count .driveFaults s with driveFaults := s.driveFaults + 1 } with
      h | ⟨u, -, -, h⟩ | ⟨n, -, -, h⟩ <;> exact congrArg State.access h
  · exact .inr (enterMute_access _ _)

/-! ### The row and the readback -/

/-- A condition that a station without orders waits in may be set to EMPTY before. -/
theorem refreshAccess_emptied {s : State} (ha : s.access = .slotWait) (h : s.noOrders = true) :
    refreshAccess { s with access := .empty } = refreshAccess s := by
  rw [refreshAccess_no_orders (.inr (.inl ha)) h]
  exact refreshAccess_no_orders (s := { s with access := .empty }) (.inl rfl) h

/-- The condition is followed before the line is brought to a verdict or behind it: nothing but EMPTY for a station
without orders can come of it. -/
theorem refreshAccess_before {f : State → State} {u : State} (hu : u.access = .slotWait ∨ u.access = .off)
    (h : u.access = .slotWait → u.noOrders = true →
      refreshAccess (f { u with access := .empty }) = refreshAccess (f u)) :
    refreshAccess (f (refreshAccess u)) = refreshAccess (f u) := by
  rcases hu with ha | ha
  · cases hno : u.noOrders with
    | true => rw [refreshAccess_no_orders (.inr (.inl ha)) hno, h ha hno]
    | false => rw [refreshAccess_waiting (.inl ha) hno]
  · rw [refreshAccess_off ha]

theorem catchUp_emptied {v : State} (ha : v.access = .slotWait) (h : v.noOrders = true) :
    refreshAccess (catchUp { v with access := .empty }) = refreshAccess (catchUp v) := by
  have hlanes : v.urgent = [] ∧ v.normal = [] := by
    rwa [State.noOrders, Bool.and_eq_true, List.isEmpty_iff, List.isEmpty_iff] at h
  by_cases hm : ∃ elapsed age, v.monitor = .idle elapsed age
  · obtain ⟨elapsed, age, hm⟩ := hm
    let aged : State := agedTo elapsed age (max age (elapsed / 8)) v
    have hempty : catchUp { v with access := .empty } = { aged with access := .empty } := by
      rw [catchUp_quiet (s := { v with access := .empty }) hm]
      · exact agedTo_withAccess _ _ _ _ _
      · rintro ⟨-, ⟨hslot, -⟩ | ⟨hopen | ⟨hslot, -⟩, -⟩⟩ <;> simp at *
    have hu : aged.urgent = [] := (agedTo_urgent _ _ _ _).trans hlanes.1
    have hn : aged.normal = [] := (agedTo_normal _ _ _ _).trans hlanes.2
    have hwait : aged.access = .slotWait := (agedTo_access _ _ _ _).trans ha
    rw [hempty]
    by_cases hbegins : BeginsBetween age (elapsed / 8) aged
    · rw [catchUp_begins hm hbegins, beginAttempt_empty hu hn]
    · rw [catchUp_quiet hm hbegins]
      exact refreshAccess_emptied hwait (noOrders_of_empty hu hn)
  · have hstays (w : State) (hw : w.monitor = v.monitor) : catchUp w = w :=
      catchUp_in_step fun elapsed age hidle => absurd ⟨elapsed, age, hw ▸ hidle⟩ hm
    rw [hstays _ rfl, hstays { v with access := .empty } rfl]
    exact refreshAccess_emptied ha h

end Sys2Proof.Machine

namespace Sys2Proof.Machine

/-! ### The samples to a verdict -/

/-- The bit of this sample of the own drive is a start bit that stands unverified (R137). -/
def Attempt.Unverified (a : Attempt) (driven : Nat) : Prop :=
  a.checked ≤ 11 * (driven / 88) ∧ driven / 88 < a.frame.encode.length

theorem startOpen_iff (a : Attempt) : a.startOpen = true ↔ a.Unverified a.driven := by
  simp [Attempt.startOpen, Attempt.Unverified]

theorem startLapsed_iff (a : Attempt) : a.startLapsed = true ↔ a.driven % 88 = 6 ∧ a.Unverified a.driven := by
  rw [Attempt.startLapsed, Bool.and_eq_true, startOpen_iff, beq_iff_eq, Attempt.startPoint]

/-- The own start bit is lost before the last of the next samples (R137). -/
theorem lapsesWithin_iff (a : Attempt) (n : Nat) :
    a.lapsesWithin n = true ↔ ∃ i, i < n ∧ 1 ≤ i ∧ (a.driven + i) % 88 = 6 ∧ a.Unverified (a.driven + i) := by
  simp only [Attempt.lapsesWithin, List.any_eq_true, List.mem_range, Bool.and_eq_true, startLapsed_iff, bne_iff_ne,
    Nat.one_le_iff_ne_zero]
  exact Iff.rfl

theorem drivesStart_iff {s : State} {a : Attempt} (h : s.access = .driving a) :
    s.drivesStart = true ↔ 2 ≤ a.driven % 88 ∧ a.driven % 88 ≤ 8 ∧ a.Unverified a.driven := by
  simp only [State.drivesStart, h, Bool.and_eq_true, startOpen_iff, Attempt.startPoint, and_assoc]
  exact and_congr decide_eq_true_iff (and_congr decide_eq_true_iff Iff.rfl)

theorem toPointSix_eq {s : State} (h : s.receiver.awaitsStart = true) : s.receiver.toPointSix = toVerdict s := by
  cases hr : s.receiver <;> simp_all [Receiver.toPointSix, toVerdict, Receiver.awaitsStart]

/-- A receiver that searches for a start bit or has a candidate, outside STUCK, judges one. -/
theorem awaitsVerdict_of {s : State} (h : s.receiver.awaitsStart = true) (hm : s.monitor.isStuck = false) :
    s.awaitsVerdict = true := by
  rw [State.awaitsVerdict, h, hm]
  rfl

section Verdict

variable {s : State} (hr : s.inReset = false) (hstart : s.receiver.awaitsStart = true)
  (hstuck : s.monitor.isStuck = false)
include hr hstart hstuck

theorem exec_startBitVerified (noisy : Bool) :
    exec (.startBitVerified noisy) s = .next (refreshAccess
      (startVerified noisy (reachVerified noisy (driveToVerdict (toVerdict s) s)))) := by
  refine (live_eq hr).trans ?_
  rw [startBitVerifiedRow, if_pos (awaitsVerdict_of hstart hstuck), toPointSix_eq hstart]

theorem exec_falseStart :
    exec .falseStart s = .next (refreshAccess (startFalse (reachFalse (driveToVerdict (toVerdict s) s)))) := by
  refine (live_eq hr).trans ?_
  rw [falseStartRow, if_pos (awaitsVerdict_of hstart hstuck), toPointSix_eq hstart]

end Verdict

/-! ### The verdict that a start bit stands -/

theorem handBit_silent {s : State} (read : Level) (h : s.isDriving = false) : handBit read s = s := by
  cases ha : s.access with
  | driving a => simp [State.isDriving, ha, Access.attempt] at h
  | _ => simp only [handBit, ha]

/-- The line at point 6 of a start bit that stands is the line of the statement (R100, R106). -/
theorem startVerified_eq (noisy : Bool) (s : State) :
    startVerified noisy (reachVerified noisy s) = handBit .dominant (verifiedLine noisy (verifiedStart noisy) s) := by
  have hline : verifiedLine noisy (verifiedStart noisy) s =
      { reachVerified noisy s with
        receiver := .receiving (verifiedStart noisy)
        monitor := (reachVerified noisy s).monitor.verified
        access := match (reachVerified noisy s).monitor with
          | .idle _ _ => s.access.lineBusy
          | _ => s.access } := by
    unfold verifiedLine reachVerified
    cases hm : s.monitor with
    | idle elapsed age => cases ha : s.access <;> rfl
    | _ => cases ha : s.access <;> rfl
  rw [hline]
  rfl

/-! ### The verdict that there is no start bit -/

/-- The line at point 6 of a candidate judged false, before the idle age has caught up (R104, R110; log 24). -/
def State.falseLine (s : State) : State :=
  s.onLine s.inReset .searching (s.monitor.afterFalse s.receiver) none false

theorem judgedFalse_access (s : State) : (judgedFalse s).access = s.access := by
  unfold judgedFalse
  cases s.monitor with
  | idle elapsed age => exact agedTo_access _ _ _ _
  | settling n => rfl
  | _ => rfl

theorem judgedFalse_withAccess (s : State) (x : Access) :
    judgedFalse { s with access := x } = { judgedFalse s with access := x } := by
  unfold judgedFalse
  cases s.monitor with
  | idle elapsed age => exact agedTo_withAccess _ _ _ x { s with receiver := .searching, run := none, longMark := false }
  | settling n => rfl
  | _ => rfl

/-- The monitor set by the samples of the candidate is overwritten where the idle age catches up. -/
theorem agedTo_falseLine {s : State} {elapsed age : Nat} (h : s.monitor = .idle elapsed age)
    (hstart : s.receiver.awaitsStart = true) :
    s.falseLine.monitor = .idle (elapsed + toVerdict s) age ∧
      agedTo (elapsed + toVerdict s) age (max age ((elapsed + toVerdict s) / 8)) s.falseLine = judgedFalse s := by
  constructor
  · show s.monitor.afterFalse s.receiver = _
    rw [h, ← toPointSix_eq hstart]
    rfl
  · unfold judgedFalse
    rw [h]
    rfl

/-- Outside IDLE the samples of the candidate are counted, or nothing is (R104). -/
theorem falseLine_eq {s : State} (hstart : s.receiver.awaitsStart = true)
    (hidle : ∀ elapsed age, s.monitor ≠ .idle elapsed age) : s.falseLine = judgedFalse s := by
  have hsix := toPointSix_eq hstart
  cases hm : s.monitor with
  | idle elapsed age => exact absurd hm (hidle elapsed age)
  | settling n =>
    cases hr : s.receiver with
    | searching => simp only [State.falseLine, State.onLine, judgedFalse, Monitor.afterFalse, hm, hr]
    | starting p mids => simp only [State.falseLine, State.onLine, judgedFalse, Monitor.afterFalse, hm, hr, ← hsix]
    | _ => rw [hr] at hstart; cases hstart
  | busy =>
    simp [State.falseLine, State.onLine, judgedFalse, Monitor.afterFalse, hm]
  | stuck n =>
    simp [State.falseLine, State.onLine, judgedFalse, Monitor.afterFalse, hm]

/-- Outside IDLE a false start leaves no idle age to catch up. -/
theorem catchUp_falseLine_not_idle {s : State} (hidle : ∀ elapsed age, s.monitor ≠ .idle elapsed age) :
    catchUp s.falseLine = s.falseLine := by
  refine catchUp_in_step fun elapsed age h => ?_
  have hm : s.monitor.afterFalse s.receiver = .idle elapsed age := h
  cases hs : s.monitor with
  | idle e g => exact absurd hs (hidle e g)
  | _ =>
    rw [hs] at hm
    cases hm

/-- The candidate is judged false and no age at which the station would begin lies between (R105, R106). -/
theorem catchUp_falseLine_quiet {s : State} (hstart : s.receiver.awaitsStart = true)
    (hquiet : ∀ elapsed age, s.monitor = .idle elapsed age →
      ¬ BeginsBetween age ((elapsed + toVerdict s) / 8) (judgedFalse s)) :
    catchUp s.falseLine = judgedFalse s := by
  cases hm : s.monitor with
  | idle elapsed age =>
    obtain ⟨hidle, haged⟩ := agedTo_falseLine hm hstart
    rw [catchUp_quiet hidle (by rw [haged]; exact hquiet elapsed age hm), haged]
  | _ =>
    have hidle (elapsed age : Nat) : s.monitor ≠ .idle elapsed age := by rw [hm]; nofun
    rw [catchUp_falseLine_not_idle hidle, falseLine_eq hstart hidle]

/-- The verdict of a station that does not drive: the idle age catches up (R100, R106). -/
theorem startFalse_reachFalse_silent {s : State} (h : s.isDriving = false) :
    startFalse (reachFalse s) = catchUp s.falseLine := startFalse_silent h

theorem falseLine_withAccess (s : State) (x : Access) :
    ({ s with access := x } : State).falseLine = { s.falseLine with access := x } := rfl

end Sys2Proof.Machine

namespace Sys2Proof.Machine

/-! ### Both verdicts behind a drive fault -/

theorem endInDriveFault_line (a : Attempt) (s : State) :
    (endInDriveFault a s).inReset = s.inReset ∧ (endInDriveFault a s).receiver = s.receiver ∧
      (endInDriveFault a s).monitor = s.monitor := (endInDriveFault_lineBlind a).keeps s

theorem not_isDriving_of {s : State} (h : s.access = .slotWait ∨ s.access = .off ∨ s.access = .empty) :
    s.isDriving = false := by
  rcases h with h | h | h <;> simp [State.isDriving, h, Access.attempt]

theorem endInDriveFault_silent (a : Attempt) (s : State) : (endInDriveFault a s).isDriving = false :=
  not_isDriving_of ((endInDriveFault_access a s).imp_right .inl)

/-- Behind a drive fault the condition is one of a station that does not drive. -/
theorem refreshAccess_endInDriveFault_silent (a : Attempt) (s : State) :
    (refreshAccess (endInDriveFault a s)).isDriving = false := by
  rcases endInDriveFault_access a s with ha | ha
  · cases hno : (endInDriveFault a s).noOrders with
    | true => rw [refreshAccess_no_orders (.inr (.inl ha)) hno]; rfl
    | false => rw [refreshAccess_waiting (.inl ha) hno]; exact not_isDriving_of (.inl ha)
  · rw [refreshAccess_off ha]; exact not_isDriving_of (.inr (.inl ha))

/-- A start bit that stands, of a station that waits: the condition may be followed before or behind. -/
theorem refreshAccess_verified (noisy : Bool) {u : State} (hu : u.access = .slotWait ∨ u.access = .off) :
    refreshAccess (startVerified noisy (reachVerified noisy (refreshAccess u))) =
      refreshAccess (startVerified noisy (reachVerified noisy u)) := by
  refine refreshAccess_before (f := fun w => startVerified noisy (reachVerified noisy w)) hu fun ha hno => ?_
  have hverified : (verifiedLine noisy (verifiedStart noisy) u).access = .slotWait := by
    show (match u.monitor, u.access with
      | .idle _ _, .openWait => .slotWait
      | _, a => a) = Access.slotWait
    rw [ha]
    cases u.monitor <;> rfl
  have hsame : verifiedLine noisy (verifiedStart noisy) { u with access := .empty } =
      { verifiedLine noisy (verifiedStart noisy) u with access := .empty } := by
    unfold verifiedLine
    cases u.monitor <;> rfl
  show refreshAccess (startVerified noisy (reachVerified noisy { u with access := .empty })) = _
  rw [startVerified_eq, startVerified_eq, hsame, handBit_silent _ (not_isDriving_of (.inr (.inr rfl))),
    handBit_silent _ (not_isDriving_of (.inl hverified))]
  exact refreshAccess_emptied hverified hno

/-- A candidate judged false, of a station that waits: the condition may be followed before or behind. -/
theorem refreshAccess_falseLine {u : State} (hu : u.access = .slotWait ∨ u.access = .off) :
    refreshAccess (catchUp (refreshAccess u).falseLine) = refreshAccess (catchUp u.falseLine) :=
  refreshAccess_before (f := fun w => catchUp w.falseLine) hu fun ha hno =>
    catchUp_emptied (v := u.falseLine) ha hno

section Readback

variable {s : State} {a : Attempt} (hr : s.inReset = false) (ha : s.access = .driving a)
include hr ha

theorem exec_driveFault : exec .driveFault s = .next (refreshAccess (endInDriveFault a s)) := by
  refine (live_eq hr).trans ?_
  rw [driveFaultRow]
  simp only [ha]

theorem exec_yield (hm : s.monitor = .busy) (hstart : s.receiver.awaitsStart = false) :
    exec .yield s = .next (refreshAccess (endInYield a s)) := by
  have hdrives : s.isDriving = true := by simp [State.isDriving, ha, Access.attempt]
  have hverdict : s.awaitsVerdict = false := by rw [State.awaitsVerdict, hstart]; rfl
  have hbusy : ({ s with monitor := s.monitor.verified } : State) = s := by rw [hm]; exact congrArg (fun m => { s with monitor := m }) hm.symm
  have hrow : yieldRow s = endInYield a { s with monitor := s.monitor.verified } := by
    simp only [yieldRow, hdrives, hverdict, ha, if_true, Bool.false_eq_true, if_false]
  exact (live_eq hr).trans (by rw [hrow, hbusy])

/-- A verdict on a start bit that lapsed on the way is one behind the drive fault (R137; log 24). -/
theorem verdicts_behind_driveFault (hstart : s.receiver.awaitsStart = true) (hstuck : s.monitor.isStuck = false)
    (hlost : a.lapsesWithin (toVerdict s) = true) (noisy : Bool) {t : State} (ht : exec .driveFault s = .next t) :
    exec (.startBitVerified noisy) s = exec (.startBitVerified noisy) t ∧ exec .falseStart s = exec .falseStart t := by
  let u : State := endInDriveFault a s
  obtain ⟨hreset, hreceiver, hmonitor⟩ := endInDriveFault_line a s
  rw [exec_driveFault hr ha, Host.Outcome.next.injEq] at ht
  subst ht
  have htr : (refreshAccess u).inReset = false := (refreshAccess_inReset u).trans (hreset.trans hr)
  have htstart : (refreshAccess u).receiver.awaitsStart = true := by
    rw [refreshAccess_receiver]; exact (congrArg _ hreceiver).trans hstart
  have htstuck : (refreshAccess u).monitor.isStuck = false := by
    rw [refreshAccess_monitor]; exact (congrArg _ hmonitor).trans hstuck
  have hsilent := refreshAccess_endInDriveFault_silent a s
  have hfault : driveToVerdict (toVerdict s) s = u := by rw [driveToVerdict_driving _ ha, if_pos hlost]
  rw [exec_startBitVerified hr hstart hstuck, exec_falseStart hr hstart hstuck,
    exec_startBitVerified htr htstart htstuck, exec_falseStart htr htstart htstuck, hfault,
    driveToVerdict_silent _ hsilent, startFalse_reachFalse_silent hsilent,
    startFalse_reachFalse_silent (endInDriveFault_silent a s)]
  have haccess := endInDriveFault_access a s
  exact ⟨congrArg _ (refreshAccess_verified noisy haccess).symm, congrArg _ (refreshAccess_falseLine haccess).symm⟩

/-- A candidate judged false while the station drives its start bit is a drive fault (R137). -/
theorem falseStart_behind_driveFault (hstart : s.receiver.awaitsStart = true) (hstuck : s.monitor.isStuck = false)
    (hlost : ¬ a.lapsesWithin (toVerdict s) = true)
    (hdrives : ({ s with access := .driving (a.driveFor (toVerdict s)) } : State).drivesStart = true)
    {t : State} (ht : exec .driveFault s = .next t) : exec .falseStart s = exec .falseStart t := by
  let sent : Attempt := a.driveFor (toVerdict s)
  let u : State := endInDriveFault a s
  obtain ⟨hreset, hreceiver, hmonitor⟩ := endInDriveFault_line a s
  rw [exec_driveFault hr ha, Host.Outcome.next.injEq] at ht
  subst ht
  have htr : (refreshAccess u).inReset = false := (refreshAccess_inReset u).trans (hreset.trans hr)
  have htstart : (refreshAccess u).receiver.awaitsStart = true := by
    rw [refreshAccess_receiver]; exact (congrArg _ hreceiver).trans hstart
  have htstuck : (refreshAccess u).monitor.isStuck = false := by
    rw [refreshAccess_monitor]; exact (congrArg _ hmonitor).trans hstuck
  have hsilent := refreshAccess_endInDriveFault_silent a s
  have hsent : driveToVerdict (toVerdict s) s = { s with access := .driving sent } := by
    rw [driveToVerdict_driving _ ha, if_neg hlost]
  have hfalse : startFalse (reachFalse { s with access := .driving sent }) = catchUp u.falseLine := by
    have hline : ({ s with access := .driving sent } : State).falseLine = { s.falseLine with access := .driving sent } := rfl
    have hend : endInDriveFault sent { s.falseLine with access := .driving sent } = u.falseLine := by
      have hafter : u.falseLine = u.onLine s.inReset .searching (s.monitor.afterFalse s.receiver) none false := by
        rw [State.falseLine, hreset, hreceiver, hmonitor]
      rw [hafter]
      exact (endInDriveFault_attempt (s := s.falseLine) (b := sent) ha rfl).trans
        (endInDriveFault_lineBlind a s _ _ _ _ _)
    have hstart' : ({ reachFalse { s with access := .driving sent } with receiver := .searching } : State).drivesStart = true :=
      hdrives
    rw [startFalse]
    simp only [hstart', if_true]
    exact congrArg catchUp hend
  rw [exec_falseStart hr hstart hstuck, exec_falseStart htr htstart htstuck, hsent, hfalse,
    driveToVerdict_silent _ hsilent, startFalse_reachFalse_silent hsilent]
  exact congrArg _ (refreshAccess_falseLine (endInDriveFault_access a s)).symm

/-- Any other candidate judged false leaves the attempt going on. -/
theorem exec_falseStart_driving (hstart : s.receiver.awaitsStart = true) (hstuck : s.monitor.isStuck = false)
    (hlost : ¬ a.lapsesWithin (toVerdict s) = true)
    (hdrives : ¬ ({ s with access := .driving (a.driveFor (toVerdict s)) } : State).drivesStart = true) :
    exec .falseStart s = .next { judgedFalse s with access := .driving (a.driveFor (toVerdict s)) } := by
  let v : State := { s with access := .driving (a.driveFor (toVerdict s)) }
  have hsent : driveToVerdict (toVerdict s) s = v := by rw [driveToVerdict_driving _ ha, if_neg hlost]
  have hstart' : ¬ ({ reachFalse v with receiver := .searching } : State).drivesStart = true := hdrives
  have hfalse : startFalse (reachFalse v) = catchUp v.falseLine := by
    rw [startFalse]
    exact congrArg catchUp (if_neg hstart')
  have hquiet : catchUp v.falseLine = judgedFalse v := by
    refine catchUp_falseLine_quiet (s := v) hstart fun elapsed age _ hbegins => ?_
    have haccess : (judgedFalse v).access = .driving (a.driveFor (toVerdict s)) := judgedFalse_access v
    rcases hbegins with ⟨-, ⟨h, -⟩ | ⟨h | ⟨h, -⟩, -⟩⟩ <;> rw [haccess] at h <;> cases h
  rw [exec_falseStart hr hstart hstuck, hsent, hfalse, hquiet, refreshAccess_driving (judgedFalse_access v),
    judgedFalse_withAccess]

end Readback

/-- Settles O45: an end of the attempt is `handBack` or `enterMute`; the verdicts on a start bit that lapsed are those
behind the drive fault, since the end of an attempt does not read the line. -/
theorem readbackMatchesYieldsOrFaults : Obligations.ReadbackMatchesYieldsOrFaults := by
  intro s a hr ha y d
  have hfault := exec_driveFault hr ha
  refine ⟨fun hm hstart => ?_, fun c hc => ?_, fun read hread => ?_, fun hlevel => ?_, fun hlevel hm hstart => ?_, ?_⟩
  · have htakes : y.TakesBack a.order ↔ s.TakesBack a.order := by
      rcases a.order with (k | k | ⟨k, w⟩) | k | l | p <;> exact Iff.rfl
    rw [exec_yield hr ha hm hstart]
    exact ⟨fun h => congrArg Host.Outcome.next (congrArg refreshAccess <| handBack_of_takesBack (htakes.mpr h)),
      fun h => congrArg Host.Outcome.next (congrArg refreshAccess <| handBack_of_not_takesBack fun h' => h (htakes.mp h'))⟩
  · have htakes : d.TakesBack a.order ↔ s.TakesBack a.order := by
      rcases a.order with (k | k | ⟨k, w⟩) | k | l | p <;> exact Iff.rfl
    have hlimit : d.retryLimit = c.retryLimit.toNat := by
      have hdc : d.config = some c := hc
      simp only [State.retryLimit, hdc]
    have hend : endInDriveFault a s = if s.driveFaults + 1 < c.retryLimit.toNat then handBack a.order d
        else enterMute .drive d := by rw [← hlimit]; rfl
    rw [hfault, hend]
    refine ⟨fun hbelow => ?_, fun hat => by rw [if_neg (Nat.not_lt.mpr hat)]⟩
    rw [if_pos hbelow]
    exact ⟨fun h => congrArg Host.Outcome.next (congrArg refreshAccess <| handBack_of_takesBack (htakes.mpr h)),
      fun h => congrArg Host.Outcome.next (congrArg refreshAccess <| handBack_of_not_takesBack fun h' => h (htakes.mp h'))⟩
  · subst hread
    simp only [handBit, ha]
    cases a.frame.levelAt a.checked <;> rfl
  · rw [hfault]
    simp only [handBit, ha, hlevel]
  · rw [exec_yield hr ha hm hstart]
    simp only [handBit, ha, hlevel]
  · intro unverified
    refine ⟨fun hpoint hopen => ?_, fun h => ?_, fun hstart hstuck noisy => ?_⟩
    · rw [hfault, startOverdue]
      simp only [ha, (startLapsed_iff a).mpr ⟨hpoint, hopen⟩, if_true]
    · rw [startOverdue]
      simp only [ha]
      exact if_neg fun hlapsed => h ((startLapsed_iff a).mp hlapsed)
    · intro sent lost drives
      have hlost : a.lapsesWithin (toVerdict s) = true ↔ lost := lapsesWithin_iff a (toVerdict s)
      have hdrives : ({ s with access := .driving sent } : State).drivesStart = true ↔ drives := drivesStart_iff rfl
      refine ⟨fun h t ht => verdicts_behind_driveFault hr ha hstart hstuck (hlost.mpr h) noisy ht, fun h => ?_⟩
      have hkept : ¬ a.lapsesWithin (toVerdict s) = true := fun h' => h (hlost.mp h')
      refine ⟨⟨verifiedStart noisy, rfl, rfl, rfl, rfl, ?_⟩, fun hd t ht => ?_, fun hd => ?_⟩
      · rw [exec_startBitVerified hr hstart hstuck, driveToVerdict_driving _ ha, if_neg hkept, startVerified_eq]
        have hline : verifiedLine noisy (verifiedStart noisy) { s with access := .driving sent } =
            { verifiedLine noisy (verifiedStart noisy) s with access := .driving sent } := by
          unfold verifiedLine
          cases s.monitor <;> rfl
        exact congrArg (fun t => Host.Outcome.next (refreshAccess (handBit .dominant t))) hline
      · exact falseStart_behind_driveFault hr ha hstart hstuck hkept (hdrives.mpr hd) ht
      · exact exec_falseStart_driving hr ha hstart hstuck hkept fun h' => hd (hdrives.mp h')

end Sys2Proof.Machine

namespace Sys2Proof.Machine

/-! ### Start bits of a station that does not drive -/

/-- What an order composes to depends on the table, the own address and the station state alone (R133). -/
theorem composes_congr {s t : State} (htable : t.table = s.table) (hown : t.ownAddr = s.ownAddr)
    (hstation : t.station = s.station) {o : Order} {b : Body} : t.Composes o b ↔ s.Composes o b := by
  have hentry (k : Byte) : t.entry k = s.entry k := entry_congr htable k
  have hpairs : t.minePairs = s.minePairs := by
    simp only [State.minePairs, State.keysAscending, State.entry, htable]
  rcases o with (k | k | ⟨k, w⟩) | k | l | p
  all_goals simp only [State.Composes, hentry, hown, hstation, hpairs]

/-- A false start ages the line, or counts in the monitor alone. -/
theorem judgedFalse_cases (s : State) :
    (∃ e g g', judgedFalse s = agedTo e g g' { s with receiver := .searching, run := none, longMark := false }) ∨
    ∃ m, judgedFalse s = { s with receiver := .searching, run := none, longMark := false, monitor := m } := by
  unfold judgedFalse
  cases hm : s.monitor with
  | idle elapsed age => exact .inl ⟨_, _, _, rfl⟩
  | settling n => exact .inr ⟨_, rfl⟩
  | _ => exact .inr ⟨_, rfl⟩

/-- A candidate judged false leaves everything but the line, the decoder, last_source and the counters. -/
theorem judgedFalse_eq (s : State) :
    judgedFalse s =
      { s with
        receiver := .searching, run := none, longMark := false, monitor := (judgedFalse s).monitor
        decoder := (judgedFalse s).decoder, lastSource := (judgedFalse s).lastSource
        counters := (judgedFalse s).counters } := by
  rcases judgedFalse_cases s with ⟨e, g, g', h⟩ | ⟨m, h⟩
  · rw [h, agedTo_monitor]
    exact agedTo_eq e g g' { s with receiver := .searching, run := none, longMark := false }
  · rw [h]

theorem begun_judgedFalse (s : State) (o : Order) (b : Body) : begun (judgedFalse s) o b = begun s o b := by
  have hown : (judgedFalse s).ownAddr = s.ownAddr := by rw [judgedFalse_eq]
  rw [begun, begun, hown]

theorem judgedFalse_lanes (s : State) :
    (judgedFalse s).urgent = s.urgent ∧ (judgedFalse s).normal = s.normal := by
  rw [judgedFalse_eq]
  exact ⟨rfl, rfl⟩

theorem composes_judgedFalse {s : State} {o : Order} {b : Body} : (judgedFalse s).Composes o b ↔ s.Composes o b := by
  refine composes_congr ?_ ?_ ?_ <;> rw [judgedFalse_eq]

/-- The candidate is judged false at an age at which the station has begun (R105, R106). -/
theorem catchUp_falseLine_begins {s : State} {elapsed age : Nat} (hstart : s.receiver.awaitsStart = true)
    (hm : s.monitor = .idle elapsed age)
    (hbegins : BeginsBetween age ((elapsed + toVerdict s) / 8) (judgedFalse s)) :
    catchUp s.falseLine = beginAttempt (judgedFalse s) := by
  obtain ⟨hidle, haged⟩ := agedTo_falseLine hm hstart
  rw [catchUp_begins hidle (by rw [haged]; exact hbegins), haged]

/-- The line at a verified start bit keeps the condition in step with the lanes (R131). -/
theorem accessFollows_verifiedLine {s : State} (noisy : Bool) (r : Reception) (h : s.AccessFollows) :
    (verifiedLine noisy r s).AccessFollows := by
  obtain ⟨hempty, hwaits⟩ := h
  have hno : (verifiedLine noisy r s).noOrders = s.noOrders := rfl
  have haccess : (verifiedLine noisy r s).access = s.access ∨
      s.access = .openWait ∧ (verifiedLine noisy r s).access = .slotWait := by
    unfold verifiedLine
    cases hm : s.monitor with
    | idle elapsed age => cases ha : s.access <;> simp
    | _ => exact .inl rfl
  rw [State.AccessFollows, hno]
  rcases haccess with ha | ⟨hopen, ha⟩
  · rw [ha]
    exact ⟨hempty, hwaits⟩
  · rw [ha]
    exact ⟨nofun, fun _ => hwaits (.inr hopen)⟩

/-- Settles O30: the verdicts are `verifiedLine` and `judgedFalse`, behind which a station begins whose slot lies among
the ages handed on. -/
theorem startBitsAndRecovery : Obligations.StartBitsAndRecovery := by
  intro s noisy hr hfollows hsilent
  refine ⟨fun hstart hstuck => ⟨⟨verifiedStart noisy, rfl, rfl, rfl, rfl, ?_⟩, fun hquiet => ?_,
    fun elapsed age hm hbegins => ?_⟩, fun hrecovering => ?_⟩
  · have hverified : (verifiedLine noisy (verifiedStart noisy) s).isDriving = false := by
      have haccess : s.access ≠ .openWait → (verifiedLine noisy (verifiedStart noisy) s).access = s.access := by
        intro ha
        unfold verifiedLine
        cases s.monitor with
        | idle elapsed age => cases hacc : s.access <;> simp_all
        | _ => rfl
      by_cases ha : s.access = .openWait
      · unfold verifiedLine State.isDriving
        cases s.monitor <;> simp [ha, Access.attempt]
      · rw [State.isDriving, haccess ha]
        exact hsilent
    rw [exec_startBitVerified hr hstart hstuck, driveToVerdict_silent _ hsilent, startVerified_eq,
      handBit_silent _ hverified, (accessFollows_verifiedLine noisy _ hfollows).refresh]
  · rw [exec_falseStart hr hstart hstuck, driveToVerdict_silent _ hsilent, startFalse_reachFalse_silent hsilent,
      catchUp_falseLine_quiet hstart hquiet,
      hfollows.refresh_eq (judgedFalse_access s) (judgedFalse_lanes s).1 (judgedFalse_lanes s).2]
  · have hexec : exec .falseStart s = .next (refreshAccess (beginAttempt (judgedFalse s))) := by
      rw [exec_falseStart hr hstart hstuck, driveToVerdict_silent _ hsilent, startFalse_reachFalse_silent hsilent,
        catchUp_falseLine_begins hstart hm hbegins]
    obtain ⟨hurgent, hnormal⟩ := judgedFalse_lanes s
    refine ⟨fun o rest b hu hb => ?_, fun o rest b hu hn hb => ?_⟩
    · rw [hexec, beginAttempt_urgent (hurgent.trans hu) (composes_judgedFalse.mpr hb), begun_judgedFalse]
      exact congrArg Host.Outcome.next (refreshAccess_driving rfl)
    · rw [hexec, beginAttempt_normal (hurgent.trans hu) (hnormal.trans hn) (composes_judgedFalse.mpr hb),
        begun_judgedFalse]
      exact congrArg Host.Outcome.next (refreshAccess_driving rfl)
  · have hrow : firstRecessiveRow s =
        { runEnds s with receiver := .searching, monitor := s.monitor.moreRecessive.released } := by
      simp only [firstRecessiveRow, hrecovering]
    refine (live_eq hr).trans (hfollows.next_eq (hrow.trans ?_) rfl rfl rfl)
    cases hm : s.monitor <;> rfl

end Sys2Proof.Machine

namespace Sys2Proof.Machine

/-! ### The samples of a bit -/

/-- Three samples have a majority: dominant or recessive (R100, R101). -/
theorem majority_three (x y z : Level) :
    majority [x, y, z] = if 2 ≤ [x, y, z].count .dominant then .dominant else .recessive := by
  cases x <;> cases y <;> cases z <;> rfl

theorem disagree_three (x y z : Level) : disagree [x, y, z] = decide (¬ (x = y ∧ y = z)) := by
  cases x <;> cases y <;> cases z <;> rfl

/-- Among three samples with a dominant majority the odd one is the third of them. -/
theorem disagree_dominant {x y z : Level} (h : 2 ≤ [x, y, z].count .dominant) :
    disagree [x, y, z] = decide ([x, y, z].count .dominant = 2) := by
  revert h
  cases x <;> cases y <;> cases z <;> decide

/-! ### The data of a character -/

theorem bit_eq (l : Option Level) : (l.map Level.bit).getD false = (l == some .recessive) := by
  rcases l with _ | _ | _ <;> rfl

/-- The received bits are the data, least significant first (R98, R103). -/
theorem dataOf_eq {bits : List Level} {data : Byte}
    (h : ∀ j, j < 8 → data.getLsbD j = (bits[j]? == some .recessive)) :
    byteOfBits ((bits.take 8).map Level.bit) = data := by
  refine BitVec.eq_of_getLsbD_eq fun j hj => ?_
  rw [getLsbD_byteOfBits _ hj, List.getElem?_map, List.getElem?_take_of_lt hj, bit_eq, h j hj]

theorem deliverFramingError_eq {r : Reception} {data : Byte} {mark : Bool} (s : State)
    (hdata : ∀ j, j < 8 → data.getLsbD j = (r.bits[j]? == some .recessive))
    (hmark : mark = (r.bits[8]? == some .recessive)) :
    deliverFramingError r s = takeCharacter data mark r.noisy true { s with receiver := .recovering } := by
  rw [deliverFramingError, dataOf_eq hdata, bit_eq, ← hmark]

theorem deliverCharacter_eq {r : Reception} {data : Byte} {mark : Bool} (cut : Bool) {s : State}
    (hstuck : s.monitor.isStuck = false)
    (hdata : ∀ j, j < 8 → data.getLsbD j = (r.bits[j]? == some .recessive))
    (hmark : mark = (r.bits[8]? == some .recessive)) :
    deliverCharacter r cut s = takeCharacter data mark r.noisy false
      { s with receiver := if cut then .starting 1 [] else .searching, monitor := s.monitor.characterEnds } := by
  rw [deliverCharacter, dataOf_eq hdata, bit_eq, ← hmark]
  simp only [characterEnds, hstuck, Bool.not_false, Bool.and_true]

/-! ### A sample at a point of a candidate -/

section Candidate

variable {p : Nat} {mids : List Level}

theorem verifyAt_early_edge (s : State) (h : 1 ≤ p ∧ p ≤ 3) (level : Level) :
    verifyAt mids (p + 1) level true s = { s with receiver := .starting 1 [] } := by
  have hearly : (2 ≤ p + 1) ∧ p + 1 ≤ 4 := by omega
  simp [verifyAt, hearly]

theorem verifyAt_late_edge (s : State) (h : p = 4 ∨ p = 5) (level : Level) :
    verifyAt mids (p + 1) level true s = { startFalse s with receiver := .starting 1 [] } := by
  rcases h with rfl | rfl <;> rfl

theorem verifyAt_before (s : State) (h : p = 1 ∨ p = 2) (level : Level) :
    verifyAt mids (p + 1) level false s = { s with receiver := .starting (p + 1) mids } := by
  rcases h with rfl | rfl <;> rfl

theorem verifyAt_sampled (s : State) (h : p = 3 ∨ p = 4) (level : Level) :
    verifyAt mids (p + 1) level false s = { s with receiver := .starting (p + 1) (mids ++ [level]) } := by
  rcases h with rfl | rfl <;> rfl

theorem verifyAt_judged (x y level : Level) (s : State) :
    verifyAt [x, y] 6 level false s =
      if 2 ≤ [x, y, level].count .dominant then startVerified (disagree [x, y, level]) s else startFalse s := by
  have hjudge : verifyAt [x, y] 6 level false s =
      if majority [x, y, level] = .dominant then startVerified (disagree [x, y, level]) s else startFalse s := rfl
  rw [hjudge, majority_three]
  split
  · exact if_pos rfl
  · exact if_neg nofun

end Candidate

/-- A false start of a silent station whose idle age is in step leaves the receiver searching. -/
theorem startFalse_in_step {s : State} (h : s.isDriving = false)
    (hstep : ∀ elapsed age, s.monitor = .idle elapsed age → elapsed / 8 ≤ age) :
    startFalse s = { s with receiver := .searching } := by
  rw [startFalse_silent h]
  exact catchUp_in_step hstep

/-! ### A sample at a point of a character -/

section Character

variable {r : Reception}

theorem receiveAt_early_edge (s : State) (h : 1 ≤ r.point ∧ r.point ≤ 3) (level : Level) :
    receiveAt r (r.point + 1) level true s = { s with receiver := .receiving { r with point := 1, mids := [] } } := by
  have hearly : (2 ≤ r.point + 1) ∧ r.point + 1 ≤ 4 := by omega
  simp [receiveAt, hearly]

theorem receiveAt_middle_edge (s : State) (h : r.point = 4 ∨ r.point = 5) (level : Level) :
    receiveAt r (r.point + 1) level true s = endBit r .recessive (handBit .recessive s) := by
  rcases h with h | h <;> rw [h] <;> rfl

theorem receiveAt_late_edge (s : State) (h : r.point = 6 ∨ r.point = 7) (level : Level) :
    receiveAt r (r.point + 1) level true s = endBit r (r.value.getD .recessive) s := by
  rcases h with h | h <;> rw [h] <;> rfl

theorem receiveAt_between (s : State) (h : r.point = 1 ∨ r.point = 2 ∨ r.point = 6 ∨ r.point = 7) (level : Level) :
    receiveAt r (r.point + 1) level false s = { s with receiver := .receiving { r with point := r.point + 1 } } := by
  rcases h with h | h | h | h <;> rw [h] <;> rfl

theorem receiveAt_sampled (s : State) (h : r.point = 3 ∨ r.point = 4) (level : Level) :
    receiveAt r (r.point + 1) level false s =
      { s with receiver := .receiving { r with point := r.point + 1, mids := r.mids ++ [level] } } := by
  rcases h with h | h <;> rw [h] <;> rfl

theorem endBit_before_stop (v : Level) (s : State) (h : r.bit < 10) :
    endBit r v s = { s with receiver := .receiving (r.next v) } := by
  rw [endBit, if_neg (by omega)]

theorem endBit_stop (v : Level) (s : State) (h : r.bit = 10) : endBit r v s = deliverCharacter r true s := by
  rw [endBit, if_pos h]

/-- Behind point 8 the next bit begins, edge or not (R102). -/
theorem receive_bit_over {s : State} (hr : s.receiver = .receiving r) (h : r.point = 8) (level : Level) (edge : Bool) :
    receive level edge s = { s with receiver := .receiving (r.next (r.value.getD .recessive)) } := by
  simp only [receive, hr, if_pos h]
  cases edge <;> rfl

theorem receive_within {s : State} (hr : s.receiver = .receiving r) (h : r.point ≠ 8) (level : Level) (edge : Bool) :
    receive level edge s = receiveAt r (r.point + 1) level edge s := by
  simp only [receive, hr, if_neg h]

/-- At point 6 the bit takes the value of its majority (R101). -/
theorem receive_judged {s : State} {x y : Level} (hr : s.receiver = .receiving r) (hpoint : r.point = 5)
    (hmids : r.mids = [x, y]) (level : Level) : receive level false s = takeBit r [x, y, level] s := by
  have hsix : receiveAt r 6 level false s = takeBit r (r.mids ++ [level]) s := rfl
  rw [receive_within hr (by omega), hpoint, hsix, hmids]
  rfl

theorem takeBit_eq {x y level v : Level} {noisy : Bool} {s : State}
    (hv : v = (if 2 ≤ [x, y, level].count .dominant then .dominant else .recessive))
    (hnoisy : noisy = (r.noisy || decide (¬ (x = y ∧ y = level)))) :
    takeBit r [x, y, level] s =
      let r' := { r with point := 6, mids := [], value := some v, noisy := noisy }
      if r.bit = 10 ∧ v = .dominant then deliverFramingError r' (handBit v s)
      else { handBit v s with receiver := .receiving r' } := by
  rw [← majority_three] at hv
  rw [← disagree_three] at hnoisy
  subst hv hnoisy
  rfl

end Character

theorem receive_starting {s : State} {p : Nat} {mids : List Level} (h : s.receiver = .starting p mids) (level : Level)
    (edge : Bool) : receive level edge s = verifyAt mids (p + 1) level edge s := by
  simp only [receive, h]

/-! ### The samples of each receiver state -/

/-- A candidate start bit up to its point 6 (R100, R102). -/
theorem starting_takes_sample {s : State} {p : Nat} {mids : List Level} (hr : s.receiver = .starting p mids) :
    (1 ≤ p → p ≤ 3 → receive .dominant true s = { s with receiver := .starting 1 [] }) ∧
    (p = 4 ∨ p = 5 → s.isDriving = false → (∀ elapsed age, s.monitor = .idle elapsed age → elapsed / 8 ≤ age) →
      receive .dominant true s = { s with receiver := .starting 1 [] }) ∧
    (p = 1 ∨ p = 2 → ∀ level, receive level false s = { s with receiver := .starting (p + 1) mids }) ∧
    (p = 3 ∨ p = 4 → ∀ level,
      receive level false s = { s with receiver := .starting (p + 1) (mids ++ [level]) }) := by
  refine ⟨fun hlow hhigh => ?_, fun hlate hsilent hstep => ?_, fun hbefore level => ?_, fun hsampled level => ?_⟩
  · rw [receive_starting hr, verifyAt_early_edge s ⟨hlow, hhigh⟩]
  · rw [receive_starting hr, verifyAt_late_edge s hlate, startFalse_in_step hsilent hstep]
  · rw [receive_starting hr, verifyAt_before s hbefore]
  · rw [receive_starting hr, verifyAt_sampled s hsampled]

/-- Settles O31: by the receiver's state and the point of the bit in progress. -/
theorem receiverTakesASample : Obligations.ReceiverTakesASample := by
  intro s inStep
  refine ⟨fun hr edge => ⟨?_, ?_⟩, fun hr => ⟨fun level => ?_, ?_⟩, fun p mids hr => ?_, fun r hr => ?_⟩
  · simp only [receive, hr]
    exact if_neg nofun
  · simp only [receive, hr, if_true]
    cases s.monitor <;> rfl
  · simp only [receive, hr]
    rfl
  · simp only [receive, hr]
    cases s.monitor.isStuck <;> rfl
  · obtain ⟨hearly, hlate, hbefore, hsampled⟩ := starting_takes_sample hr
    refine ⟨hearly, hlate, hbefore, hsampled, ?_⟩
    rintro x y level rfl rfl
    refine ⟨fun hdominant => ?_, fun hrecessive hsilent hstep => ?_⟩
    · rw [receive_starting hr, verifyAt_judged, if_pos hdominant, startVerified, disagree_dominant hdominant]
      cases s.monitor with
      | idle elapsed age => cases s.access <;> rfl
      | _ => rfl
    · rw [receive_starting hr, verifyAt_judged, if_neg (by omega), startFalse_in_step hsilent hstep]
  · intro next ended
    refine ⟨fun hlow hhigh => ?_, fun h level => ?_, fun h level => ?_,
      fun hbit => ⟨fun h => ?_, fun v hv => ⟨fun h => ?_, fun h level edge => ?_⟩⟩,
      fun x y level v noisy hpoint hmids hv hnoisy => ⟨?_, ?_⟩,
      fun data mark hbit hstuck hsilent hdata hmark => ⟨fun hlow hhigh => ?_, fun h => ?_⟩⟩
    · rw [receive_within hr (by omega), receiveAt_early_edge s ⟨hlow, hhigh⟩]
    · rw [receive_within hr (by omega), receiveAt_between s h]
    · rw [receive_within hr (by omega), receiveAt_sampled s h]
    · rw [receive_within hr (by omega), receiveAt_middle_edge s h, endBit_before_stop _ _ hbit]
      rfl
    · rw [receive_within hr (by omega), receiveAt_late_edge s h, endBit_before_stop _ _ hbit, hv]
      rfl
    · rw [receive_bit_over hr h, hv]
      rfl
    · intro hgoes
      have hno : ¬(r.bit = 10 ∧ v = .dominant) := by
        rintro ⟨hbit, rfl⟩
        rcases hgoes with hbelow | h
        · omega
        · cases h
      rw [receive_judged hr hpoint hmids, takeBit_eq hv hnoisy, if_neg hno]
    · rintro data mark hbit rfl hdata hmark
      rw [receive_judged hr hpoint hmids, takeBit_eq hv hnoisy, if_pos ⟨hbit, rfl⟩]
      exact deliverFramingError_eq _ hdata hmark
    · have hends : receive .dominant true s = deliverCharacter r true s := by
        by_cases hmiddle : r.point = 4 ∨ r.point = 5
        · rw [receive_within hr (by omega), receiveAt_middle_edge s hmiddle, endBit_stop _ _ hbit,
            handBit_silent _ hsilent]
        · rw [receive_within hr (by omega), receiveAt_late_edge s (by omega), endBit_stop _ _ hbit]
      rw [hends, deliverCharacter_eq true hstuck hdata hmark]
      rfl
    · have hends : bitEnds s = deliverCharacter r false s := by
        simp only [bitEnds, hr]
        exact if_pos ⟨hbit, h.ge⟩
      rw [hends, deliverCharacter_eq false hstuck hdata hmark]
      rfl

end Sys2Proof.Machine

namespace Sys2Proof.Machine

/-! ### The timers that stand at zero -/

theorem claimDue_iff {s : State} {k : Byte} :
    s.claimDue k = true ↔ s.monitor.timersRun = true ∧ ∃ e, s.entry k = some e ∧ e.claim.timer = some 0 := by
  rw [State.claimDue, Bool.and_eq_true]
  cases he : s.entry k with
  | none => simp
  | some e => simp

/-- A claim timer at zero is a window or a deferral (R8). -/
theorem timer_zero_iff (c : Claim) : c.timer = some 0 ↔ c = .asking (some 0) ∨ ∃ a, c = .peerAsking a 0 := by
  rcases c with _ | ⟨a, d⟩ | w | _ | q <;> simp [Claim.timer]

theorem listenDue_iff {s : State} : s.listenDue = true ↔ s.own.listen = some 0 ∧ s.monitor.timersRun = true := by
  rw [State.listenDue, Bool.and_eq_true, beq_iff_eq]

/-- A claim timer at zero is that of the place excepted (R9). -/
theorem place_of_claimDue {s : State} {place : Option Nat} (h : s.NoZeroTimer place) {k : Byte}
    (hdue : s.claimDue k = true) : ∃ i e, s.table[i]? = some (some e) ∧ e.key = k ∧ some i = place := by
  obtain ⟨-, e, he, htimer⟩ := claimDue_iff.mp hdue
  obtain ⟨i, hi⟩ := List.getElem?_of_mem (findEntry_mem he)
  refine ⟨i, e, hi, findEntry_key he, ?_⟩
  by_contra hne
  obtain ⟨hasking, hpeer⟩ := h.1 i e hi hne
  rcases (timer_zero_iff e.claim).mp htimer with hc | ⟨a, hc⟩
  · exact hasking hc
  · exact hpeer a hc

/-- No timer stands at zero. -/
theorem zeroTimers_nil {s : State} (h : s.NoZeroTimer none) : s.zeroTimers = [] := by
  have hclaims : s.keysAscending.filter s.claimDue = [] := by
    rw [List.filter_eq_nil_iff]
    intro k _ hdue
    obtain ⟨i, e, -, -, hnone⟩ := place_of_claimDue h hdue
    cases hnone
  have hlisten : ¬ s.listenDue = true := fun hdue => h.2 (listenDue_iff.mp hdue).1
  rw [State.zeroTimers, hclaims, if_neg hlisten]
  rfl

/-! ### The bit time that ends -/

theorem bitEnds_moment {s : State} (h : ∀ r, s.receiver = .receiving r → r.bit = 10 → r.point < 8) :
    bitEnds s = moment s := by
  cases hr : s.receiver with
  | receiving r =>
    simp only [bitEnds, hr]
    exact if_neg fun hstop => absurd hstop.2 (Nat.not_le.mpr (h r hr hstop.1))
  | _ => simp only [bitEnds, hr]

theorem stuckEnds_stuck {s : State} {n : Nat} (h : s.monitor = .stuck n) (hnone : s.NoZeroTimer none) :
    stuckEnds s = produce (.lineFault .stuckEnd) { s with monitor := .idle 0 0, lastSource := 0 } := by
  let free : State := produce (.lineFault .stuckEnd) { s with monitor := .idle 0 0, lastSource := 0 }
  have hresume : resumeTimers free = free := by
    refine resumeTimers_none (zeroTimers_nil ?_)
    have htable : free.table = s.table := produce_table _ _
    have hown : free.own = s.own := produce_own _ _
    rw [State.NoZeroTimer, htable, hown]
    exact hnone
  simp only [stuckEnds, h]
  exact hresume

section Idle

variable {s : State} {elapsed age : Nat} (h : s.monitor = .idle elapsed age)
include h

theorem moment_starting (hs : s.receiver.isStarting = true) :
    moment s = { s with monitor := .idle (elapsed + 1) age } := by
  simp only [moment, h]
  exact if_pos hs

theorem moment_idle (hs : s.receiver.isStarting = false) :
    moment s = catchUp { s with monitor := .idle (elapsed + 1) age } := by
  simp only [moment, h]
  exact if_neg (by simp [hs])

end Idle

/-- Ageing overwrites the elapsed time. -/
theorem agedTo_withMonitor (elapsed age age' : Nat) (m : Monitor) (s : State) :
    agedTo elapsed age age' { s with monitor := m } = agedTo elapsed age age' s := rfl

theorem composes_agedTo {elapsed age age' : Nat} {s : State} {o : Order} {b : Body} :
    (agedTo elapsed age age' s).Composes o b ↔ s.Composes o b := by
  refine composes_congr ?_ ?_ ?_ <;> rw [agedTo_eq]

theorem begun_agedTo (elapsed age age' : Nat) (s : State) (o : Order) (b : Body) :
    begun (agedTo elapsed age age' s) o b = begun s o b := by
  rw [begun, begun, agedTo_ownAddr]

/-- A bit time ends on an idle line that no candidate holds back: the age rises, and the station may begin (R105,
R130). -/
theorem bitEnds_idle {s : State} {elapsed age : Nat} (hend : bitEnds s = moment s) (h : s.monitor = .idle elapsed age)
    (hs : s.receiver.isStarting = false) :
    let aged := agedTo (elapsed + 1) age (max age ((elapsed + 1) / 8)) s
    (¬ BeginsBetween age ((elapsed + 1) / 8) aged → bitEnds s = aged) ∧
    (BeginsBetween age ((elapsed + 1) / 8) aged →
      (∀ o rest b, s.urgent = o :: rest → s.Composes (.urgent o) b →
        bitEnds s = { aged with urgent := rest, access := begun s (.urgent o) b }) ∧
      ∀ o rest b, s.urgent = [] → s.normal = o :: rest → s.Composes (.normal o) b →
        bitEnds s = { aged with normal := rest, access := begun s (.normal o) b }) := by
  intro aged
  have hsame := agedTo_withMonitor (elapsed + 1) age (max age ((elapsed + 1) / 8)) (.idle (elapsed + 1) age) s
  have hmoment : bitEnds s = catchUp { s with monitor := .idle (elapsed + 1) age } := hend.trans (moment_idle h hs)
  refine ⟨fun hquiet => ?_, fun hbegins => ?_⟩
  · rw [hmoment, catchUp_quiet (s := { s with monitor := .idle (elapsed + 1) age }) rfl (by rw [hsame]; exact hquiet),
      hsame]
  · have hbegun : bitEnds s = beginAttempt aged := by
      rw [hmoment, catchUp_begins (s := { s with monitor := .idle (elapsed + 1) age }) rfl (by rw [hsame]; exact hbegins),
        hsame]
    refine ⟨fun o rest b hu hb => ?_, fun o rest b hu hn hb => ?_⟩
    · rw [hbegun, beginAttempt_urgent ((agedTo_urgent _ _ _ _).trans hu) (composes_agedTo.mpr hb), begun_agedTo]
    · rw [hbegun, beginAttempt_normal ((agedTo_urgent _ _ _ _).trans hu) ((agedTo_normal _ _ _ _).trans hn)
        (composes_agedTo.mpr hb), begun_agedTo]

/-! ### The dominant run -/

/-- The state with one more dominant sample counted (R104, R108, R113). -/
def State.dominantCounted (s : State) : State :=
  { s with run := some (match s.run with | none => 0 | some m => m + 1), monitor := s.monitor.noRecessive }

theorem longDominantReached_eq (s : State) :
    longDominantReached s =
      { s with
        longMark := true
        lastSource := match s.decoder with
          | .assembling _ => 0
          | _ => s.lastSource
        decoder := match s.decoder with
          | .assembling _ => .skipping
          | d => d
        counters := match s.decoder with
          | .assembling _ => (s.counters.bump .longDominant).bump .broken
          | _ => s.counters.bump .longDominant } := by
  unfold longDominantReached
  have hdecoder : ({ count .longDominant s with longMark := true } : State).decoder = s.decoder := rfl
  cases hd : s.decoder with
  | assembling a => simp [hd, count, discardFrame]
  | _ => simp [hd, count]

theorem measureRun_dominant (s : State) :
    measureRun .dominant s =
      let n := match s.run with
        | none => 0
        | some m => m + 1
      if 88 ≤ n ∧ s.longMark = false then longDominantReached s.dominantCounted
      else if 880 ≤ n ∧ s.monitor.isStuck = false ∧ s.isDriving = false then stuckBegins s.dominantCounted
      else s.dominantCounted := by
  have hstuck : s.monitor.noRecessive.isStuck = s.monitor.isStuck := by cases s.monitor <;> rfl
  rw [← hstuck]
  rfl

end Sys2Proof.Machine

namespace Sys2Proof.Machine

/-! ### The begin of a tick -/

/-- The line is not open, or the station does not wait. -/
def State.NotOpen (s : State) : Prop :=
  ∀ elapsed age, s.monitor = .idle elapsed age → age < 43 ∨ s.access ≠ .slotWait ∧ s.access ≠ .openWait

theorem not_isWaiting {s : State} (h : s.access ≠ .slotWait ∧ s.access ≠ .openWait) : s.isWaiting = false := by
  obtain ⟨hslot, hopen⟩ := h
  cases ha : s.access with
  | slotWait => exact absurd ha hslot
  | openWait => exact absurd ha hopen
  | _ => simp only [State.isWaiting, ha, Bool.false_and]

/-- No station begins at the start of the tick (R130). -/
theorem beginOnOpenLine_stays {s : State} (h : s.NotOpen) : beginOnOpenLine s = s := by
  cases hm : s.monitor with
  | idle elapsed age =>
    simp only [beginOnOpenLine, hm]
    refine if_neg fun hbegins => ?_
    rw [Bool.and_eq_true, decide_eq_true_iff] at hbegins
    obtain ⟨hage, hwaits⟩ := hbegins
    rcases h elapsed age hm with hlow | hidle
    · exact absurd hage (Nat.not_le.mpr hlow)
    · rw [not_isWaiting hidle] at hwaits
      cases hwaits
  | _ => simp only [beginOnOpenLine, hm]

/-- The events of the moment in the order that the free value gives (log 5). -/
def State.tickOrder (s : State) : List TickEvent :=
  declareInOrder (advanceClocks s).duePeers
    (freeOrder (advanceClocks s).freeCount ((advanceClocks s).dueEvents s.presenceCrosses))

theorem tick_eq {s : State} (hr : s.inReset = false) (hfollows : s.AccessFollows) (hopen : s.NotOpen) :
    tick s = fireEvents s.tickOrder (useFree s.tickOrder.length (advanceClocks s)) := by
  have hsettled : settled beginOnOpenLine s = s := by
    rw [settled, beginOnOpenLine_stays hopen, hfollows.refresh]
  simp only [tick, hr, Bool.false_eq_true, if_false, hsettled]
  rfl

theorem declareInOrder_sample (ps : List Addr) (es : List TickEvent) :
    declareInOrder ps (.sample :: es) = .sample :: declareInOrder ps es := by
  cases ps <;> rfl

theorem declareInOrder_nil (ps : List Addr) : declareInOrder ps [] = [] := by
  cases ps <;> rfl

/-! ### The sample point -/

theorem lineLevel_eq {t : State} {level : Level}
    (h : level = .dominant ↔ t.line.head? = some .held ∨ t.line.head? ≠ some .cut ∧ t.ownLevel = .dominant) :
    t.lineLevel = level := by
  have hline : t.lineLevel = .dominant ↔
      t.line.head? = some .held ∨ t.line.head? ≠ some .cut ∧ t.ownLevel = .dominant := by
    unfold State.lineLevel
    rcases t.line.head? with _ | _ | _ | _ <;> simp
  rw [← h] at hline
  cases hl : t.lineLevel <;> cases level <;> simp_all

theorem samplePoint_eq {s : State} {level : Level} {edge : Bool}
    (hlevel : level = .dominant ↔ (refreshAccess (bitEnds s)).line.head? = some .held ∨
      (refreshAccess (bitEnds s)).line.head? ≠ some .cut ∧ (refreshAccess (bitEnds s)).ownLevel = .dominant)
    (hedge : edge = true ↔ level = .dominant ∧ (refreshAccess (bitEnds s)).run = none) :
    samplePoint s = startOverdue (receive level edge (measureRun level (driveOn (refreshAccess (bitEnds s))))) := by
  have hboth : ((refreshAccess (bitEnds s)).lineLevel == .dominant && (refreshAccess (bitEnds s)).run.isNone) = edge := by
    rw [lineLevel_eq hlevel, Bool.eq_iff_iff, hedge, Bool.and_eq_true, beq_iff_eq, Option.isNone_iff_eq_none]
  simp only [samplePoint, settled]
  rw [hboth, lineLevel_eq hlevel]

/-- Settles O32: the parts of `samplePoint`, each by its own equation. -/
theorem tickTakesASample : Obligations.TickTakesASample := by
  intro s hr hfollows
  refine ⟨fun hopen hdue => ?_, fun level edge hlevel hedge => ?_, fun hstop => ?_, ?_, ?_⟩
  · have horder : s.tickOrder = [.sample] := by
      rw [State.tickOrder, hdue]
      show declareInOrder _ [.sample] = _
      rw [declareInOrder_sample, declareInOrder_nil]
    rw [tick_eq hr hfollows hopen, horder]
    rfl
  · rw [samplePoint_eq hlevel hedge]
    rfl
  · have hmoment := bitEnds_moment hstop
    refine ⟨fun n hm => ?_, fun n hm hnone => ?_, fun hm => ?_, fun elapsed age hm => ⟨fun hs => ?_, fun hs => ?_⟩⟩
    · rw [hmoment, moment]
      simp only [hm, settlingEnds]
    · rw [hmoment, moment]
      simp only [hm]
      by_cases h96 : 96 ≤ n
      · rw [if_pos h96, if_pos h96, stuckEnds_stuck hm hnone]
      · rw [if_neg h96, if_neg h96]
    · rw [hmoment, moment]
      simp only [hm]
    · rw [hmoment, moment_starting hm hs]
    · exact bitEnds_idle hmoment hm hs
  · cases hm : s.monitor <;> simp [measureRun, Monitor.moreRecessive, hm]
  · intro n counted
    have hcounted : counted = s.dominantCounted := by
      show counted = { s with run := some n, monitor := s.monitor.noRecessive }
      cases hm : s.monitor <;> simp [counted, Monitor.noRecessive, hm]
    have hdominant := measureRun_dominant s
    refine ⟨fun h => ?_, fun hlong h88 => ?_, fun hlong h880 hstuck hsilent => ?_⟩
    · rw [hdominant, hcounted]
      rcases h with ⟨hlong, hlow⟩ | ⟨hlong, hlater⟩
      · exact (if_neg (fun h => absurd h.1 (Nat.not_le.mpr hlow))).trans (if_neg fun h => absurd h.1 (Nat.not_le.mpr (hlow.trans (by decide))))
      · refine (if_neg (fun h => by rw [hlong] at h; cases h.2)).trans (if_neg ?_)
        rintro ⟨h880, hstuck, hsilent⟩
        rcases hlater with hlow | hlater | hlater
        · exact absurd h880 (Nat.not_le.mpr hlow)
        · rw [hstuck] at hlater; cases hlater
        · rw [hsilent] at hlater; cases hlater
    · rw [hdominant, hcounted]
      exact (if_pos ⟨h88, hlong⟩).trans (longDominantReached_eq _)
    · rw [hdominant, hcounted]
      exact (if_neg (fun h => by rw [hlong] at h; cases h.2)).trans (if_pos ⟨h880, hstuck, hsilent⟩)

end Sys2Proof.Machine

namespace Sys2Proof.Machine

/-! ### The events of a moment -/

/-- The peer that an event declares. -/
def TickEvent.peer? : TickEvent → Option Addr
  | .peer p => some p
  | _ => none

/-- A peer's silence. -/
def TickEvent.isPeer (e : TickEvent) : Bool := e.peer?.isSome

theorem peerDue_iff {s : State} {p : Addr} :
    s.peerDue p = true ↔ ∃ e, s.peer p = some e ∧ s.silenceTimeout ≤ e.age := by
  rw [State.peerDue]
  cases s.peer p <;> simp

theorem mem_addresses (p : Addr) : p ∈ (List.range 32).map fun i => BitVec.ofNat 5 i :=
  List.mem_map.mpr ⟨p.toNat, List.mem_range.mpr p.isLt, BitVec.ofNat_toNat 5 p ▸ rfl⟩

theorem mem_duePeers {s : State} {p : Addr} : p ∈ s.duePeers ↔ s.peerDue p = true := by
  rw [State.duePeers, List.mem_filter, and_iff_right (mem_addresses p)]

/-- Declarations go in ascending order of address (R64). -/
theorem ascending_duePeers (s : State) : s.duePeers.Pairwise fun p q => p.toNat < q.toNat := by
  have hall : ((List.range 32).map fun i => (BitVec.ofNat 5 i : Addr)).Pairwise fun p q => p.toNat < q.toNat := by
    decide
  exact hall.filter _

theorem nodup_duePeers (s : State) : s.duePeers.Nodup :=
  (ascending_duePeers s).imp fun hlt heq => absurd (congrArg BitVec.toNat heq) hlt.ne

theorem mem_ite_singleton {α : Type} {c : Bool} {x y : α} : x ∈ (if c = true then [y] else []) ↔ c = true ∧ x = y := by
  cases c <;> simp

section Due

variable {s : State} {presence : Bool}

theorem sample_mem_dueEvents : .sample ∈ s.dueEvents presence := by simp [State.dueEvents]

theorem claim_mem_dueEvents {k : Byte} : .claim k ∈ s.dueEvents presence ↔ s.claimDue k = true := by
  have hkey : s.claimDue k = true → k ∈ s.keysAscending := fun hdue => by
    obtain ⟨-, e, he, -⟩ := claimDue_iff.mp hdue
    rw [mem_keysAscending, he]
    rfl
  simp only [State.dueEvents, List.mem_append, List.mem_map, List.mem_filter, List.mem_singleton, mem_ite_singleton,
    TickEvent.claim.injEq, reduceCtorEq, and_false, exists_false, false_or, or_false, exists_eq_right]
  exact ⟨And.right, fun hdue => ⟨hkey hdue, hdue⟩⟩

theorem peer_mem_dueEvents {p : Addr} : .peer p ∈ s.dueEvents presence ↔ s.peerDue p = true := by
  simp only [State.dueEvents, List.mem_append, List.mem_map, List.mem_singleton, mem_ite_singleton,
    TickEvent.peer.injEq, reduceCtorEq, and_false, exists_false, false_or, or_false, exists_eq_right, mem_duePeers]

theorem presence_mem_dueEvents : .presence ∈ s.dueEvents presence ↔ presence = true := by
  simp [State.dueEvents]

theorem silence_mem_dueEvents : .silence ∈ s.dueEvents presence ↔ s.silenceCountDue = true := by
  simp [State.dueEvents]

theorem listen_mem_dueEvents : .listen ∈ s.dueEvents presence ↔ s.listenDue = true := by
  simp [State.dueEvents]

theorem leave_mem_dueEvents : .leave ∈ s.dueEvents presence ↔ s.leaveDue = true := by
  simp [State.dueEvents]

/-- The declarations among the events of a moment. -/
theorem filterMap_dueEvents : (s.dueEvents presence).filterMap TickEvent.peer? = s.duePeers := by
  have hsome (ps : List Addr) : (ps.map TickEvent.peer).filterMap TickEvent.peer? = ps := by
    rw [List.filterMap_map]
    exact List.filterMap_some
  have hnone (ks : List Byte) : (ks.map TickEvent.claim).filterMap TickEvent.peer? = [] := by
    rw [List.filterMap_map]
    exact List.filterMap_eq_nil_iff.mpr fun _ _ => rfl
  have hone (c : Bool) (e : TickEvent) (he : e.peer? = none) :
      (if c = true then [e] else []).filterMap TickEvent.peer? = [] := by
    cases c <;> simp [he]
  simp only [State.dueEvents, List.filterMap_append, hsome, hnone, hone _ .presence rfl,
    hone _ .silence rfl, hone _ .listen rfl, hone _ .leave rfl, List.append_nil]
  rfl

/-- Where no key stands in the table twice, no event of the moment does (R1). -/
theorem nodup_dueEvents (h : (tableKeys s.table).Nodup) : (s.dueEvents presence).Nodup := by
  have hclaims : ((s.keysAscending.filter s.claimDue).map TickEvent.claim).Nodup :=
    ((nodup_keysAscending h).filter _).map fun a b hab => TickEvent.claim.inj hab
  have hpeers : (s.duePeers.map TickEvent.peer).Nodup := (nodup_duePeers s).map fun a b hab => TickEvent.peer.inj hab
  have hone (c : Bool) (e : TickEvent) : (if c = true then [e] else []).Nodup := by cases c <;> simp
  simp only [State.dueEvents, List.nodup_append, List.mem_append, List.mem_map, List.mem_singleton, mem_ite_singleton]
  refine ⟨⟨⟨⟨⟨⟨List.nodup_singleton _, hclaims, ?_⟩, hpeers, ?_⟩, hone _ _, ?_⟩, hone _ _, ?_⟩, hone _ _, ?_⟩,
    hone _ _, ?_⟩ <;> grind

end Due

/-! ### The order of a moment -/

/-- Up to order, a list of events is its declarations and the rest. -/
theorem perm_peers_rest (l : List TickEvent) :
    l.Perm ((l.filterMap TickEvent.peer?).map .peer ++ l.filter fun e => !e.isPeer) := by
  induction l with
  | nil => exact .refl _
  | cons e l ih =>
    cases e with
    | peer p => exact ih.cons _
    | _ => exact (ih.cons _).trans List.perm_middle.symm

/-- The declarations take their places in ascending order, and no other event moves (R64). -/
theorem declareInOrder_spec {ps : List Addr} {es : List TickEvent}
    (h : ps.length = (es.filterMap TickEvent.peer?).length) :
    (declareInOrder ps es).filterMap TickEvent.peer? = ps ∧
      (declareInOrder ps es).filter (fun e => !e.isPeer) = es.filter fun e => !e.isPeer := by
  induction es generalizing ps with
  | nil =>
    obtain rfl := List.length_eq_zero_iff.mp h
    exact ⟨rfl, rfl⟩
  | cons e es ih =>
    cases e with
    | peer q =>
      cases ps with
      | nil => cases h
      | cons p ps =>
        obtain ⟨hpeers, hrest⟩ := ih (ps := ps) (Nat.succ.inj h)
        exact ⟨congrArg (p :: ·) hpeers, hrest⟩
    | _ =>
      obtain ⟨hpeers, hrest⟩ := ih (ps := ps) h
      cases ps <;> exact ⟨hpeers, congrArg (_ :: ·) hrest⟩

theorem declareInOrder_perm {ps : List Addr} {es : List TickEvent} (h : ps.Perm (es.filterMap TickEvent.peer?)) :
    (declareInOrder ps es).Perm es ∧ (declareInOrder ps es).filterMap TickEvent.peer? = ps := by
  obtain ⟨hpeers, hrest⟩ := declareInOrder_spec h.length_eq
  refine ⟨?_, hpeers⟩
  calc (declareInOrder ps es).Perm _ := perm_peers_rest _
    _ = ps.map .peer ++ es.filter (fun e => !e.isPeer) := by rw [hpeers, hrest]
    List.Perm _ ((es.filterMap TickEvent.peer?).map .peer ++ es.filter fun e => !e.isPeer) :=
      (h.map TickEvent.peer).append_right _
    List.Perm _ es := (perm_peers_rest es).symm

/-- Every event of the moment is taken once, declarations in ascending order of address. -/
theorem tickOrder_perm (s : State) :
    s.tickOrder.Perm ((advanceClocks s).dueEvents s.presenceCrosses) ∧
      s.tickOrder.filterMap TickEvent.peer? = (advanceClocks s).duePeers := by
  have hfree := freeOrder_perm (advanceClocks s).freeCount ((advanceClocks s).dueEvents s.presenceCrosses)
  have hpeers : (advanceClocks s).duePeers.Perm
      ((freeOrder (advanceClocks s).freeCount ((advanceClocks s).dueEvents s.presenceCrosses)).filterMap
        TickEvent.peer?) := by
    have hsame := (hfree.filterMap TickEvent.peer?).symm
    rwa [filterMap_dueEvents] at hsame
  obtain ⟨hperm, hdeclared⟩ := declareInOrder_perm hpeers
  exact ⟨hperm.trans hfree, hdeclared⟩

/-- Two events come in either order. -/
theorem perm_pair {α : Type} {l : List α} {a b : α} (h : l.Perm [a, b]) : l = [a, b] ∨ l = [b, a] := by
  obtain ⟨x, y, rfl⟩ := List.length_eq_two.mp h.length_eq
  have hx : x ∈ [a, b] := h.subset List.mem_cons_self
  rcases List.mem_pair.mp hx with rfl | rfl
  · exact .inl (by rw [List.singleton_perm_singleton.mp ((List.perm_cons x).mp h)])
  · have hswap := h.trans (List.Perm.swap x a [])
    exact .inr (by rw [List.singleton_perm_singleton.mp ((List.perm_cons x).mp hswap)])

end Sys2Proof.Machine

namespace Sys2Proof.Machine

/-! ### The events that a row takes -/

theorem claimOf_zero {s : State} {k : Byte} :
    (s.claimOf k = some (.asking (some 0)) ∨ ∃ a, s.claimOf k = some (.peerAsking a 0)) ↔
      ∃ e, s.entry k = some e ∧ e.claim.timer = some 0 := by
  simp only [claimOf_eq_some, timer_zero_iff]
  constructor
  · rintro (⟨e, he, hc⟩ | ⟨a, e, he, hc⟩)
    · exact ⟨e, he, .inl hc⟩
    · exact ⟨e, he, .inr ⟨a, hc⟩⟩
  · rintro ⟨e, he, hc | ⟨a, hc⟩⟩
    · exact .inl ⟨e, he, hc⟩
    · exact .inr ⟨a, e, he, hc⟩

theorem presenceCrosses_iff {s : State} :
    s.presenceCrosses = true ↔ (s.station = .listening ∨ s.station = .active) ∧
      ∃ x, s.own.presence = some x ∧ x < s.presencePeriod ∧ s.presencePeriod ≤ x + sampleTime s.rate := by
  rw [State.presenceCrosses]
  cases s.own.presence <;> simp [and_assoc]

theorem silenceCountDue_iff {s : State} :
    s.silenceCountDue = true ↔ ∃ x, s.own.silence = some x ∧ s.halfSilence ≤ x := by
  rw [State.silenceCountDue]
  cases s.own.silence <;> simp

theorem leaveDue_iff {s : State} : s.leaveDue = true ↔ s.leaveLimit = some 0 := by
  rw [State.leaveDue, beq_iff_eq]

/-- A deferral expires where the entry is PEER_ASKING alone (R36). -/
theorem deferralExpires_other {s : State} {k : Byte} (h : ∀ a d, s.claimOf k ≠ some (.peerAsking a d)) :
    deferralExpires k s = s := by
  cases he : s.entry k with
  | none => simp only [deferralExpires, he]
  | some e =>
    cases hc : e.claim with
    | peerAsking a d => exact absurd (claimOf_eq_some.mpr ⟨e, he, hc⟩) (h a d)
    | _ => simp only [deferralExpires, he, hc]

/-- A window expires where the entry is ASKING alone (R31). -/
theorem windowExpires_other {s : State} {k : Byte} (h : ∀ w, s.claimOf k ≠ some (.asking w)) :
    windowExpires k s = s := by
  cases he : s.entry k with
  | none => simp only [windowExpires, he]
  | some e =>
    cases hc : e.claim with
    | asking w => exact absurd (claimOf_eq_some.mpr ⟨e, he, hc⟩) (h w)
    | _ => simp only [windowExpires, he, hc]

/-- A granted entry is MINE (R32). -/
theorem claimOf_grantKey {s : State} {k : Byte} {e : Entry} (he : s.entry k = some e) :
    (grantKey k e s).claimOf k = some .mine := by
  have htable : (grantKey k e s).table = (setWant k .none (setClaimGen k .mine (e.gen + 1) s)).table := by
    rw [grantKey, requestState_table, produce_table]
  rw [claimOf_congr htable, claimOf_setWant]
  exact claimOf_eq_some.mpr ⟨{ e with claim := .mine, gen := e.gen + 1 }, by
    rw [entry_setClaimGen, he]; simp, rfl⟩

theorem fireEvent_claim {s : State} {k : Byte} (h : s.claimDue k = true) :
    fireEvent (.claim k) s = deferralExpires k (windowExpires k s) := by
  rw [fireEvent, claimTimerExpires, if_pos h]

theorem fireEvent_window {s : State} {k : Byte} (hruns : s.monitor.timersRun = true)
    (hc : s.claimOf k = some (.asking (some 0))) : fireEvent (.claim k) s = windowExpires k s := by
  obtain ⟨e, he, hasking⟩ := claimOf_eq_some.mp hc
  have hgrant : windowExpires k s = grantKey k e s := by
    simp only [windowExpires, he, hasking, hruns, if_true]
  rw [fireEvent_claim (claimDue_iff.mpr ⟨hruns, claimOf_zero.mp (.inl hc)⟩), hgrant]
  refine deferralExpires_other fun a d hpeer => ?_
  rw [claimOf_grantKey he] at hpeer
  cases hpeer

theorem fireEvent_deferral {s : State} {k : Byte} {a : Addr} (hruns : s.monitor.timersRun = true)
    (hc : s.claimOf k = some (.peerAsking a 0)) : fireEvent (.claim k) s = deferralExpires k s := by
  rw [fireEvent_claim (claimDue_iff.mpr ⟨hruns, claimOf_zero.mp (.inr ⟨a, hc⟩)⟩), windowExpires_other]
  intro w hasking
  rw [hc] at hasking
  cases hasking

/-- An event that no longer stands does nothing. -/
theorem fireEvent_not_due {s : State} {e : TickEvent} (h : e ∉ s.dueEvents s.presenceCrosses) : fireEvent e s = s := by
  cases e with
  | sample => exact absurd sample_mem_dueEvents h
  | claim k => rw [fireEvent, claimTimerExpires, if_neg (mt claim_mem_dueEvents.mpr h)]
  | peer p => rw [fireEvent, if_neg (mt peer_mem_dueEvents.mpr h)]
  | presence => rw [fireEvent, if_neg (mt presence_mem_dueEvents.mpr h)]
  | silence => rw [fireEvent, if_neg (mt silence_mem_dueEvents.mpr h)]
  | listen => rw [fireEvent, if_neg (mt listen_mem_dueEvents.mpr h)]
  | leave => rw [fireEvent, if_neg (mt leave_mem_dueEvents.mpr h)]

/-- An event that stands is taken as its row takes it. -/
theorem next_fireEvent {s : State} {e : TickEvent} {f : State → State} (hr : s.inReset = false)
    (h : fireEvent e s = f s) : .next (refreshAccess (fireEvent e s)) = live f s := by
  rw [h, live_eq hr]

/-! ### The tick of an open line -/

theorem isWaiting_of {s : State} (h : s.access = .slotWait ∨ s.access = .openWait)
    (hlanes : s.urgent ≠ [] ∨ s.normal ≠ []) : s.isWaiting = true := by
  rcases h with h | h <;> simp only [State.isWaiting, h, noOrders_of_nonempty hlanes] <;> rfl

/-- A station that waits on an open line has begun before the tick (R130; logs 9, 10). -/
theorem tick_begins {s t : State} {elapsed age : Nat} (hr : s.inReset = false) (hm : s.monitor = .idle elapsed age)
    (hopen : 43 ≤ age) (hwaits : s.isWaiting = true) (hbegins : beginAttempt s = t) (htr : t.inReset = false)
    (hfollows : t.AccessFollows) (hnot : t.NotOpen) : tick s = tick t := by
  have hs : settled beginOnOpenLine s = t := by
    have hbegin : beginOnOpenLine s = t := by
      simp only [beginOnOpenLine, hm]
      have hcond : (decide (openAge ≤ age) && s.isWaiting) = true := by
        rw [hwaits, Bool.and_true, decide_eq_true_iff]
        exact hopen
      exact (if_pos hcond).trans hbegins
    rw [settled, hbegin, hfollows.refresh]
  have ht : settled beginOnOpenLine t = t := by
    rw [settled, beginOnOpenLine_stays hnot, hfollows.refresh]
  simp only [tick, hr, htr, Bool.false_eq_true, if_false, hs, ht]

theorem accessFollows_driving {s : State} {a : Attempt} (h : s.access = .driving a) : s.AccessFollows := by
  rw [State.AccessFollows, h]
  exact ⟨nofun, nofun⟩

theorem notOpen_of {s : State} (hslot : s.access ≠ .slotWait) (hopen : s.access ≠ .openWait) : s.NotOpen :=
  fun _ _ _ => .inr ⟨hslot, hopen⟩

/-! ### The tick by its events -/

theorem nodup_keys_advanceClocks {s : State} (h : s.TableLaw) : (tableKeys (advanceClocks s).table).Nodup := by
  have hkeys : tableKeys (advanceClocks s).table = tableKeys s.table := by
    show tableKeys (s.tableAfter (sampleTime s.rate)) = _
    rw [tableAfter_eq_map]
    exact tableKeys_map (fun e => by split <;> rfl) _
  rw [hkeys]
  exact h.2.1

/-- Settles O24: the tick takes the events of its moment in `State.tickOrder`, each as its row does. -/
theorem tickTakesTheEventsOfItsMoment : Obligations.TickTakesTheEventsOfItsMoment := by
  refine ⟨fun s hr hfollows hopen => ?_, fun u hr => ?_, fun s c hc => ?_, fun s hc => ?_,
    fun s elapsed age hr hm hage hwait => ?_⟩
  · intro t due
    obtain ⟨hperm, hpeers⟩ := tickOrder_perm s
    have htick := tick_eq hr hfollows hopen
    refine ⟨⟨sample_mem_dueEvents, fun k => ?_, fun p => ?_, ?_, ?_, ?_, ?_, fun htable => ?_⟩, fun e hdue => ?_,
      s.tickOrder, hperm, ?_, ?_⟩
    · rw [claim_mem_dueEvents, claimDue_iff, claimOf_zero]
    · rw [peer_mem_dueEvents, peerDue_iff]
    · rw [presence_mem_dueEvents, presenceCrosses_iff]
    · rw [silence_mem_dueEvents, silenceCountDue_iff]
    · rw [listen_mem_dueEvents, listenDue_iff]
    · rw [leave_mem_dueEvents, leaveDue_iff]
    · exact nodup_dueEvents (nodup_keys_advanceClocks htable)
    · intro v
      have hpair : s.tickOrder = [.sample, e] ∨ s.tickOrder = [e, .sample] :=
        perm_pair (hperm.trans (List.Perm.of_eq hdue))
      refine hpair.symm.imp (fun h => ?_) fun h => ?_
      all_goals rw [htick, h]; rfl
    · have hascending := ascending_duePeers t
      rw [← hpeers] at hascending
      exact hascending
    · rw [htick, hperm.length_eq]
      rfl
  · refine ⟨rfl, fun hruns => ⟨fun k hc => ?_, fun k a hc => ?_, fun hlisten => ?_⟩, fun p e he hage => ?_,
      fun hcrosses => ?_, fun x hx hhalf => ?_, fun hlimit => ?_, fun e he => fireEvent_not_due he⟩
    · exact next_fireEvent hr (fireEvent_window hruns hc)
    · exact next_fireEvent hr (fireEvent_deferral hruns hc)
    · exact next_fireEvent hr (if_pos (listenDue_iff.mpr ⟨hlisten, hruns⟩))
    · exact next_fireEvent hr (if_pos (peerDue_iff.mpr ⟨e, he, hage⟩))
    · exact next_fireEvent hr (if_pos hcrosses)
    · exact next_fireEvent hr (if_pos (silenceCountDue_iff.mpr ⟨x, hx, hhalf⟩))
    · exact next_fireEvent hr (if_pos (leaveDue_iff.mpr hlimit))
  · exact ⟨silenceTimeout_of_config hc, halfSilence_of_config hc, presencePeriod_of_config hc⟩
  · rw [State.silenceTimeout, hc]
  · have hdrives (t : State) (a : Attempt) (ha : t.access = .driving a) : t.AccessFollows ∧ t.NotOpen :=
      ⟨accessFollows_driving ha, notOpen_of (by rw [ha]; nofun) (by rw [ha]; nofun)⟩
    refine ⟨fun o rest b hu hb => ?_, fun o rest b hu hn hb => ?_, fun k hu hn hno => ?_⟩
    · obtain ⟨hfollows, hnot⟩ := hdrives { s with urgent := rest, access := begun s (.urgent o) b } _ rfl
      exact tick_begins hr hm hage (isWaiting_of hwait (.inl (by rw [hu]; exact List.cons_ne_nil _ _)))
        (beginAttempt_urgent hu hb) hr hfollows hnot
    · obtain ⟨hfollows, hnot⟩ := hdrives { s with normal := rest, access := begun s (.normal o) b } _ rfl
      exact tick_begins hr hm hage (isWaiting_of hwait (.inr (by rw [hn]; exact List.cons_ne_nil _ _)))
        (beginAttempt_normal hu hn hb) hr hfollows hnot
    · refine tick_begins hr hm hage (isWaiting_of hwait (.inr (by rw [hn]; exact List.cons_ne_nil _ _)))
        (beginAttempt_lapsed hu hn hno) hr ⟨fun _ => noOrders_of_empty hu rfl, ?_⟩ (notOpen_of nofun nofun)
      rintro (h | h) <;> cases h

end Sys2Proof.Machine

namespace Sys2Proof.Machine

/-! ### The one timer that stands at zero -/

/-- The key of an entry at its number stands in the table once (R1). -/
theorem count_tableKeys {t : List (Option Entry)} {n : Nat} {e : Entry} (h : t[n]? = some (some e))
    (first : ∀ m f, t[m]? = some (some f) → f.key = e.key → m = n) : (tableKeys t).count e.key = 1 := by
  obtain ⟨hn, hget⟩ := List.getElem?_eq_some_iff.mp h
  have hsplit : t = t.take n ++ some e :: t.drop (n + 1) := by
    rw [← hget, List.getElem_cons_drop, List.take_append_drop]
  have hbefore : (tableKeys (t.take n)).count e.key = 0 := by
    refine List.count_eq_zero.mpr fun hmem => ?_
    obtain ⟨f, hf, hkey⟩ := (mem_tableKeys _ _).mp hmem
    obtain ⟨i, hi⟩ := List.getElem?_of_mem hf
    rw [List.getElem?_take] at hi
    split at hi
    · have := first i f hi hkey
      omega
    · cases hi
  have hafter : (tableKeys (t.drop (n + 1))).count e.key = 0 := by
    refine List.count_eq_zero.mpr fun hmem => ?_
    obtain ⟨f, hf, hkey⟩ := (mem_tableKeys _ _).mp hmem
    obtain ⟨i, hi⟩ := List.getElem?_of_mem hf
    rw [List.getElem?_drop] at hi
    have := first _ f hi hkey
    omega
  have hkeys : tableKeys t = tableKeys (t.take n) ++ e.key :: tableKeys (t.drop (n + 1)) :=
    (congrArg tableKeys hsplit).trans (tableKeys_append _ _)
  rw [hkeys, List.count_append, List.count_cons_self, hbefore, hafter]

/-- Where one element alone has a property, and stands once, the filter holds it alone. -/
theorem filter_eq_singleton {l : List Byte} {p : Byte → Bool} {x : Byte} (honly : ∀ y ∈ l, p y = true → y = x)
    (hx : p x = true) (hcount : l.count x = 1) : l.filter p = [x] := by
  have hlength : (l.filter p).length = 1 := by
    rw [← hcount, List.count, ← List.countP_eq_length_filter]
    refine List.countP_congr fun y hy => ⟨fun hp => by rw [honly y hy hp]; exact beq_self_eq_true x, fun hyx => ?_⟩
    rw [beq_iff_eq.mp hyx]
    exact hx
  have hall : ∀ y ∈ l.filter p, y = x := fun y hy => by
    obtain ⟨hmem, hp⟩ := List.mem_filter.mp hy
    exact honly y hmem hp
  rw [List.eq_replicate_of_mem hall, hlength]
  rfl

/-- No timer stands at zero but the one of the entry at its number (R9). -/
theorem zeroTimers_one {s : State} {m : Nat} {e : Entry} (hruns : s.monitor.timersRun = true) (hat : s.EntryAt m e)
    (hc : e.claim = .asking (some 0)) (hnone : s.NoZeroTimer (some m)) : s.zeroTimers = [.claim e.key] := by
  have hdue : s.claimDue e.key = true := claimDue_iff.mpr ⟨hruns, e, hat.entry, by rw [hc]; rfl⟩
  have hclaims : s.keysAscending.filter s.claimDue = [e.key] := by
    refine filter_eq_singleton (fun k _ hk => ?_) hdue ?_
    · obtain ⟨i, f, hf, hkey, hi⟩ := place_of_claimDue hnone hk
      obtain rfl := Option.some.inj hi
      obtain rfl : f = e := by
        have := hf.symm.trans hat.1
        simpa using this
      exact hkey.symm
    · rw [State.keysAscending, (sortKeys_perm _).count_eq]
      exact count_tableKeys hat.1 hat.2
  have hlisten : ¬ s.listenDue = true := fun hl => hnone.2 (listenDue_iff.mp hl).1
  rw [State.zeroTimers, hclaims, if_neg hlisten]
  rfl

/-! ### The rows of the Line Monitor -/

theorem refreshAccess_refreshAccess (s : State) : refreshAccess (refreshAccess s) = refreshAccess s :=
  (accessFollows_refreshAccess s).refresh

/-- The gap limit taken twice is the gap limit (R87). -/
theorem gapReached_gapReached (s : State) : gapReached (gapReached s) = gapReached s := by
  have hwaits : (gapReached s).decoder = .waiting := by
    rw [gapReached_eq]
    cases s.decoder <;> rfl
  generalize gapReached s = t at hwaits
  simp only [gapReached, hwaits]

theorem gapLimitRow_eq {s : State} {elapsed age : Nat} (hm : s.monitor = .idle elapsed age)
    (hs : s.receiver.isStarting = false) (hage : age < 4) :
    gapLimitRow s = gapReached { s with monitor := .idle (max elapsed 32) 4 } := by
  have hidle : (s.monitor.isIdle && !s.receiver.isStarting) = true := by rw [hm, hs]; rfl
  have hbring : bringAge 4 s = gapReached { s with monitor := .idle (max elapsed 32) 4 } := by
    simp only [bringAge, hm]
    rw [if_pos ⟨hage, le_refl 4⟩, Nat.max_eq_right hage.le]
  rw [gapLimitRow, if_pos hidle, hbring, gapReached_gapReached]

/-- The end of STUCK, with no timer or one at zero (R113, R114). -/
theorem stuckEnds_one {s : State} {n m : Nat} {e : Entry} (hm : s.monitor = .stuck n) (hat : s.EntryAt m e)
    (hc : e.claim = .asking (some 0)) (hnone : s.NoZeroTimer (some m)) (hst : s.station.transmits = true) :
    let free := produce (.lineFault .stuckEnd) { s with monitor := .idle 0 0, lastSource := 0 }
    stuckEnds s = refreshAccess
      { produce (.granted e.key (e.gen + 1))
          (free.putEntry m { e with claim := .mine, gen := e.gen + 1, want := .none }) with
        urgent := placeState (.hold e.key) s.urgent } := by
  intro free
  have htable : free.table = s.table := produce_table _ _
  have hruns : free.monitor.timersRun = true := congrArg Monitor.timersRun (produce_monitor _ _)
  have hat' : free.EntryAt m e := hat.congr htable
  have hnone' : free.NoZeroTimer (some m) := by
    have hown : free.own = s.own := produce_own _ _
    rw [State.NoZeroTimer, htable, hown]
    exact hnone
  have hclaim : free.claimOf e.key = some (.asking (some 0)) := claimOf_eq_some.mpr ⟨e, hat'.entry, hc⟩
  have hexpires : zeroTimerExpires (.claim e.key) free = grantKey e.key e free := by
    have hwindow : windowExpires e.key free = grantKey e.key e free := by
      simp only [windowExpires, hat'.entry, hc, hruns, if_true]
    exact (fireEvent_window hruns hclaim).trans hwindow
  have hurgent : free.urgent = s.urgent := produce_urgent _ _
  have hends : stuckEnds s = resumeTimers free := by simp only [stuckEnds, hm]; rfl
  rw [hends, resumeTimers_one (zeroTimers_one hruns hat' hc hnone'), hexpires,
    grantKey_at hat' ((congrArg _ (produce_station _ _)).trans hst), hurgent]

/-- Settles O29: the gap limit, the ends of SETTLING and STUCK, and the long dominant, each by its row's equation. -/
theorem gapRunsAndCountsOfTheMonitor : Obligations.GapRunsAndCountsOfTheMonitor := by
  refine ⟨fun s elapsed age hr hfollows hm hs hage => ?_, fun s hr hsilent => ⟨fun n hfollows hm => ?_, fun n hm => ?_,
    fun hstuck => ?_, fun hfollows hlong => ?_⟩⟩
  · intro t
    have hrow : gapLimitRow s = gapReached t := gapLimitRow_eq hm hs hage
    refine ⟨fun a hd => ?_, fun hd => ?_, fun hd => ?_⟩
    · have ht : t.decoder = .assembling a := hd
      refine (live_eq hr).trans (hfollows.next_eq (hrow.trans ?_) rfl rfl rfl)
      simp only [gapReached, ht]
      rfl
    · have ht : t.decoder = .skipping := hd
      refine (live_eq hr).trans (hfollows.next_eq (hrow.trans ?_) rfl rfl rfl)
      simp only [gapReached, ht]
    · have ht : t.decoder = .waiting := hd
      refine (live_eq hr).trans (hfollows.next_eq (hrow.trans ?_) rfl rfl rfl)
      simp only [gapReached, ht]
  · refine (live_eq hr).trans (hfollows.next_eq ?_ rfl rfl rfl)
    have hsettling : s.monitor.isSettling = true := by rw [hm]; rfl
    rw [settlingEndRow, if_pos hsettling]
    simp only [settlingEnds, runEnds, hm]
  · intro free
    have hisStuck : s.monitor.isStuck = true := by rw [hm]; rfl
    have hrow : stuckEndRow s = stuckEnds { runEnds s with receiver := .searching } := if_pos hisStuck
    refine ⟨fun hnone => ?_, fun m e hat hc hnone hst => ?_⟩
    · exact (live_eq hr).trans (by rw [hrow, stuckEnds_stuck (s := { runEnds s with receiver := .searching }) hm hnone]; rfl)
    · refine (live_eq hr).trans ?_
      rw [hrow, stuckEnds_one (s := { runEnds s with receiver := .searching }) hm (hat.congr rfl) hc hnone hst,
        refreshAccess_refreshAccess]
      rfl
  · refine (live_eq hr).trans ?_
    rw [stuckBeginRow, if_neg (by rw [hstuck, hsilent]; exact Bool.false_ne_true)]
    simp only [stuckBegins]
    cases s.receiver <;> rfl
  · refine (live_eq hr).trans (hfollows.next_eq ?_ rfl rfl rfl)
    rw [longDominantRow, if_neg (by rw [hlong, hsilent]; exact Bool.false_ne_true), longDominantReached_eq]
    cases s.monitor <;> rfl

end Sys2Proof.Machine

namespace Sys2Proof.Machine

/-! ### The last bits of a character -/

/-- The part taken while a test holds: the test holds in it, and not behind it. -/
theorem takeWhile_spec {α : Type} (p : α → Bool) (l : List α) :
    (∀ i, i < (l.takeWhile p).length → ∃ x, l[i]? = some x ∧ p x = true) ∧
      ∀ x, l[(l.takeWhile p).length]? = some x → p x = false := by
  induction l with
  | nil => exact ⟨nofun, nofun⟩
  | cons y l ih =>
    obtain ⟨hin, hbehind⟩ := ih
    cases hy : p y with
    | false =>
      rw [List.takeWhile_cons_of_neg (by simp [hy])]
      exact ⟨nofun, fun x hx => by obtain rfl := Option.some.inj hx; exact hy⟩
    | true =>
      rw [List.takeWhile_cons_of_pos hy]
      refine ⟨fun i hi => ?_, hbehind⟩
      cases i with
      | zero => exact ⟨y, rfl, hy⟩
      | succ i => exact hin i (Nat.lt_of_succ_lt_succ hi)

/-- The bits of a character from the mark bit back to d0. -/
def bitsBack (data : Byte) (mark : Bool) : List Bool := mark :: (List.range 8).map fun i => data.getLsbD (7 - i)

theorem getElem?_bitsBack (data : Byte) (mark : Bool) {i : Nat} (hi : i ≤ 8) :
    (bitsBack data mark)[i]? = some (if 8 - i = 8 then mark else data.getLsbD (8 - i)) := by
  cases i with
  | zero => rfl
  | succ i =>
    have hlt : i < 8 := hi
    have hne : 8 - (i + 1) ≠ 8 := by omega
    have hsub : 8 - (i + 1) = 7 - i := by omega
    rw [if_neg hne, hsub]
    simp [bitsBack, hlt]

/-- `trailing` counts the last bits of one level, up to the first of the other. -/
theorem trailing_spec (level : Level) (data : Byte) (mark : Bool) :
    trailing level data mark ≤ 9 ∧
    (∀ i, i < trailing level data mark → levelOfBit (if 8 - i = 8 then mark else data.getLsbD (8 - i)) = level) ∧
    (trailing level data mark < 9 → levelOfBit (if 8 - trailing level data mark = 8 then mark
      else data.getLsbD (8 - trailing level data mark)) ≠ level) := by
  obtain ⟨hin, hbehind⟩ := takeWhile_spec (fun b => levelOfBit b == level) (bitsBack data mark)
  have hlength : (bitsBack data mark).length = 9 := by simp [bitsBack]
  have hle : trailing level data mark ≤ 9 := by
    rw [← hlength]
    exact (List.takeWhile_prefix _).length_le
  refine ⟨hle, fun i hi => ?_, fun hlt => ?_⟩
  · obtain ⟨x, hx, hp⟩ := hin i hi
    rw [getElem?_bitsBack data mark (by omega)] at hx
    obtain rfl := Option.some.inj hx
    exact beq_iff_eq.mp hp
  · have hp := hbehind _ (getElem?_bitsBack data mark (i := trailing level data mark) (by omega))
    exact beq_eq_false_iff_ne.mp hp

/-! ### The row of a character -/

theorem takeCharacter_settling {s : State} {n : Nat} (h : s.monitor = .settling n) (data : Byte)
    (mark noisy framingError : Bool) : takeCharacter data mark noisy framingError s = s := by
  simp only [takeCharacter, h]

/-- A character at a station that does not drive (R103; log 16). -/
theorem characterRow_clean {s : State} (hstuck : s.monitor.isStuck = false) (h : s.isDriving = false) (data : Byte)
    (mark noisy cut : Bool) :
    characterRow data mark noisy false cut s = takeCharacter data mark noisy false (characterPasses data mark cut s) := by
  rw [characterRow, if_neg (by rw [hstuck]; exact Bool.false_ne_true)]
  cases ha : s.access with
  | driving a => simp [State.isDriving, ha, Access.attempt] at h
  | _ => rfl

theorem characterRow_framingError {s : State} (hstuck : s.monitor.isStuck = false) (h : s.isDriving = false) (data : Byte)
    (mark noisy cut : Bool) :
    characterRow data mark noisy true cut s = takeCharacter data mark noisy true (framingErrorPasses data mark s) := by
  rw [characterRow, if_neg (by rw [hstuck]; exact Bool.false_ne_true)]
  cases ha : s.access with
  | driving a => simp [State.isDriving, ha, Access.attempt] at h
  | _ => rfl

/-- Settles O9: `trailing` is the part taken while a bit has the level, and the row of a character in SETTLING leaves
what `characterPasses` or `framingErrorPasses` does, since the decoder takes nothing there. -/
theorem characterInSettlingOrStuckIsDropped : Obligations.CharacterInSettlingOrStuckIsDropped := by
  refine ⟨fun level data mark => trailing_spec level data mark, fun s data mark noisy cut hr =>
    ⟨fun n hm hsilent => ⟨?_, ?_⟩, fun n framingError hm hfollows => ?_⟩⟩
  · have hpasses : characterPasses data mark cut s =
        { s with
          receiver := if cut then .starting 1 [] else .searching
          monitor := .settling (if cut then 0 else 8 * (trailing .recessive data mark + 1))
          run := if cut then some 0 else none, longMark := false, access := s.access.lineBusy } := by
      simp only [characterPasses, characterEnds, runEnds, hm, Monitor.afterClean, Monitor.isStuck,
        Monitor.characterEnds]
      cases cut <;> rfl
    refine (live_eq hr).trans (congrArg (fun t => Host.Outcome.next (refreshAccess t)) ?_)
    rw [characterRow_clean (by rw [hm]; rfl) hsilent, hpasses]
    exact takeCharacter_settling rfl _ _ _ _
  · have hpasses : framingErrorPasses data mark s =
        { s with
          receiver := .recovering, monitor := .settling 0, run := some (framingErrorRun data mark)
          longMark := false, access := s.access.lineBusy } := by
      simp only [framingErrorPasses, hm]
      rfl
    refine (live_eq hr).trans (congrArg (fun t => Host.Outcome.next (refreshAccess t)) ?_)
    rw [characterRow_framingError (by rw [hm]; rfl) hsilent, hpasses]
    exact takeCharacter_settling rfl _ _ _ _
  · refine (live_eq hr).trans (hfollows.next_eq (if_pos ?_) rfl rfl rfl)
    rw [hm]
    rfl

end Sys2Proof.Machine

namespace Sys2Proof.Machine

/-! ### Character 0 and the length fields -/

/-- Character 0 carries the kind and the source (R79, 12.1). -/
theorem characterZero_read (k : Kind) (a : Addr) :
    kindOf (natByte (k.code + 8 * a.toNat)) = some k ∧ sourceOf (natByte (k.code + 8 * a.toNat)) = a := by
  revert a
  cases k <;> decide

/-- The flags and count byte of a PRESENCE is read back (12.1). -/
theorem presenceFlags_read : ∀ (n : Fin 17) (j l : Bool),
    (presenceFlags j l n).getLsbD 5 = j ∧ (presenceFlags j l n).getLsbD 6 = l ∧
      (presenceFlags j l n &&& 0x1F).toNat = n := by decide

theorem readPairs_pairBytes (ps : List (Byte × Byte)) : readPairs (pairBytes ps) = ps := by
  induction ps with
  | nil => rfl
  | cons p ps ih => rw [pairBytes, readPairs, ih]

theorem pairBytes_eq (ps : List (Byte × Byte)) : pairBytes ps = ps.flatMap fun x => [x.1, x.2] := by
  induction ps with
  | nil => rfl
  | cons p ps ih => rw [pairBytes, List.flatMap_cons, ih]; rfl

theorem length_pairBytes (ps : List (Byte × Byte)) : (pairBytes ps).length = 2 * ps.length := by
  induction ps with
  | nil => rfl
  | cons p ps ih => simp only [pairBytes, List.length_cons, ih]; omega

theorem toNat_natByte {n : Nat} (h : n ≤ 16) : (natByte n).toNat = n :=
  Nat.mod_eq_of_lt (by omega)

/-! ### Bodies and lengths read back -/

/-- The characters of a frame spell its body (12.1). -/
theorem readBody_chars {f : Frame} (h : f.lengthInRange = true) : readBody f.body.kind f.body.chars = some f.body := by
  obtain ⟨p, b⟩ := f
  cases b with
  | presence j l ps =>
    have hlength : ps.length < 17 := Nat.lt_succ_of_le (of_decide_eq_true h)
    obtain ⟨hj, hl, -⟩ := presenceFlags_read ⟨ps.length, hlength⟩ j l
    simp only [Body.chars, Body.kind, readBody, readPairs_pairBytes]
    exact congrArg some (by rw [hj, hl])
  | free k g w => cases w <;> rfl
  | _ => rfl

/-- The characters that fix the length of a frame (R79). -/
def Kind.lengthKnownAt : Kind → Nat
  | .presence => 2
  | .post => 3
  | _ => 0

/-- The length field of a frame, once it is received, gives the frame's length, whatever the check byte (R79, R83). -/
theorem expectedLength_take_chars {f : Frame} (h : f.lengthInRange = true) (check : Byte) (j : Nat) :
    expectedLength f.body.kind ((f.chars ++ [check]).take j) =
      some (if j < f.body.kind.lengthKnownAt then none else some f.encode.length) := by
  obtain ⟨p, b⟩ := f
  cases b with
  | presence joining leaving ps =>
    have hle : ps.length ≤ 16 := of_decide_eq_true h
    obtain ⟨-, -, hcount⟩ := presenceFlags_read ⟨ps.length, Nat.lt_succ_of_le hle⟩ joining leaving
    have hlength : ({ source := p, body := .presence joining leaving ps } : Frame).encode.length = 3 + 2 * ps.length := by
      simp only [Frame.encode, Frame.chars, Body.chars, List.length_append, List.length_cons, length_pairBytes,
        List.length_nil]
      omega
    rw [hlength]
    match j with
    | 0 => rfl
    | 1 => rfl
    | j + 2 =>
      simp only [Frame.chars, Body.chars, Body.kind, List.cons_append, List.take_succ_cons, expectedLength, hcount,
        if_pos hle]
      rfl
  | post d payload =>
    have hrange : 1 ≤ payload.length ∧ payload.length ≤ 16 := by
      simpa [Frame.lengthInRange] using h
    have hbyte : (natByte payload.length).toNat = payload.length := toNat_natByte hrange.2
    have hlength : ({ source := p, body := .post d payload } : Frame).encode.length = 4 + payload.length := by
      simp only [Frame.encode, Frame.chars, Body.chars, List.length_append, List.length_cons, List.length_nil]
      omega
    rw [hlength]
    match j with
    | 0 => rfl
    | 1 => rfl
    | 2 => rfl
    | j + 3 =>
      simp only [Frame.chars, Body.chars, Body.kind, List.cons_append, List.take_succ_cons, expectedLength, hbyte,
        if_pos hrange]
      rfl
  | _ => cases j <;> rfl

theorem expectedLength_take {f : Frame} (h : f.lengthInRange = true) (j : Nat) :
    expectedLength f.body.kind (f.encode.take j) =
      some (if j < f.body.kind.lengthKnownAt then none else some f.encode.length) :=
  expectedLength_take_chars h _ j

theorem lengthKnownAt_le (f : Frame) : f.body.kind.lengthKnownAt ≤ f.encode.length := by
  obtain ⟨p, b⟩ := f
  cases b with
  | presence joining leaving ps => simp [Frame.encode, Frame.chars, Body.chars, Body.kind, Kind.lengthKnownAt]
  | post d payload => simp [Frame.encode, Frame.chars, Body.chars, Body.kind, Kind.lengthKnownAt]
  | _ => exact Nat.zero_le _

/-- A whole frame has its length, whatever the check byte. -/
theorem expectedLength_whole {f : Frame} (h : f.lengthInRange = true) (check : Byte) :
    expectedLength f.body.kind (f.chars ++ [check]) = some (some f.encode.length) := by
  have hlength : (f.chars ++ [check]).length = f.encode.length := by
    rw [Frame.encode, List.length_append, List.length_append]
    rfl
  have htake := expectedLength_take_chars h check f.encode.length
  rwa [← hlength, List.take_length, hlength, if_neg (Nat.not_lt.mpr (lengthKnownAt_le f))] at htake

theorem expectedLength_encode {f : Frame} (h : f.lengthInRange = true) :
    expectedLength f.body.kind f.encode = some (some f.encode.length) := expectedLength_whole h _

theorem length_encode_le {f : Frame} (h : f.lengthInRange = true) : f.encode.length ≤ 35 := by
  obtain ⟨p, b⟩ := f
  cases b with
  | presence joining leaving ps =>
    have hle : ps.length ≤ 16 := of_decide_eq_true h
    simp only [Frame.encode, Frame.chars, Body.chars, List.length_append, List.length_cons, length_pairBytes,
      List.length_nil]
    omega
  | post d payload =>
    have hrange : 1 ≤ payload.length ∧ payload.length ≤ 16 := by
      simpa [Frame.lengthInRange] using h
    simp only [Frame.encode, Frame.chars, Body.chars, List.length_append, List.length_cons, List.length_nil]
    omega
  | _ => exact Nat.le_of_ble_eq_true rfl

/-! ### The bits of a character on the line -/

/-- Bit `bit` of character `i` as the line carries it (R98). -/
theorem levelAt_bit {f : Frame} {i bit : Nat} {b : Byte} (hb : f.encode[i]? = some b) (hbit : bit < 11) :
    f.levelAt (11 * i + bit) =
      if bit = 0 then .dominant
      else if bit ≤ 8 then levelOfBit (b.getLsbD (bit - 1))
      else if bit = 9 then (if i = 0 then .recessive else .dominant)
      else .recessive := by
  have hdiv : (11 * i + bit) / 11 = i := by omega
  have hmod : (11 * i + bit) % 11 = bit := by omega
  rw [Frame.levelAt, hdiv, hmod, hb]

/-- Behind its last character a frame is recessive (R136). -/
theorem levelAt_behind {f : Frame} {i : Nat} (h : 11 * f.encode.length ≤ i) : f.levelAt i = .recessive := by
  have hnone : f.encode[i / 11]? = none := List.getElem?_eq_none (by omega)
  rw [Frame.levelAt, hnone]

theorem ownLevel_driving {s : State} {a : Attempt} (h : s.access = .driving a) :
    s.ownLevel = a.frame.levelAt (a.driven / 8) := by
  simp only [State.ownLevel, h]

/-- Settles O26: the characters are read back field by field, and the level of each bit is `levelAt_bit`. -/
theorem frameIsReadBackFromItsBytes : Obligations.FrameIsReadBackFromItsBytes := by
  refine ⟨fun s h => ?_, fun f hrange => ?_⟩
  · cases ha : s.access with
    | driving a => exact absurd ha (h a)
    | _ => simp only [State.ownLevel, ha]
  · intro c0 body
    have hlength := Frame.lengthInRange_of_inRange hrange
    obtain ⟨hkind, hsource⟩ := characterZero_read f.body.kind f.source
    have hbody : body = f.body.chars := by
      obtain ⟨p, b⟩ := f
      cases b with
      | presence joining leaving ps =>
        show _ :: ps.flatMap (fun x => [x.1, x.2]) = presenceFlags joining leaving ps.length :: pairBytes ps
        rw [pairBytes_eq]
        cases joining <;> cases leaving <;> rfl
      | free k g w => cases w <;> rfl
      | _ => rfl
    rw [hbody]
    refine ⟨rfl, hkind, hsource, readBody_chars hlength, expectedLength_encode hlength, length_encode_le hlength,
      fun i b hb => ⟨levelAt_bit hb (bit := 0) (by decide), fun j hj => ?_, levelAt_bit hb (bit := 9) (by decide),
        levelAt_bit hb (bit := 10) (by decide), fun s a bit sample ha hf hsample => ⟨fun hbehind => ?_,
          fun hbit hdriven => ?_⟩⟩⟩
    · rw [Nat.add_assoc, levelAt_bit hb (by omega), if_neg (by omega), if_pos (by omega)]
      have hsub : 1 + j - 1 = j := by omega
      rw [hsub]
      rfl
    · rw [ownLevel_driving ha, hf]
      exact levelAt_behind (by omega)
    · have hdiv : a.driven / 8 = 11 * i + bit := by omega
      rw [ownLevel_driving ha, hf, hdiv, levelAt_bit hb hbit]
      rfl

end Sys2Proof.Machine

namespace Sys2Proof.Machine
open Polynomial

/-! ### The check byte as a remainder -/

/-- The divisor of R82. -/
noncomputable def divisor : (ZMod 2)[X] := X ^ 8 + X ^ 2 + X + 1

theorem term_xor (a b : Bool) (p : (ZMod 2)[X]) :
    (if (a ^^ b) = true then p else 0) = (if a = true then p else 0) + (if b = true then p else 0) := by
  cases a <;> cases b <;> simp [CharTwo.add_self_eq_zero]

/-- Adding bytes bit by bit is adding their polynomials. -/
theorem bytePolynomial_xor (a b : Byte) : bytePolynomial (a ^^^ b) = bytePolynomial a + bytePolynomial b := by
  rw [bytePolynomial, bytePolynomial, bytePolynomial, ← Finset.sum_add_distrib]
  refine Finset.sum_congr rfl fun i _ => ?_
  rw [BitVec.getLsbD_xor]
  exact term_xor _ _ _

/-- A byte shifted by one bit is its polynomial times X, but for the bit that leaves (R82). -/
theorem bytePolynomial_shift (r : Byte) :
    bytePolynomial r * X = bytePolynomial (r <<< 1) + (if r.getLsbD 7 = true then X ^ 8 else 0) := by
  have hbit (i : Nat) (hi : i < 7) : (r <<< 1).getLsbD (i + 1) = r.getLsbD i := by
    rw [BitVec.getLsbD_shiftLeft]
    simp [show i + 1 < 8 by omega]
  have hterm (i : Nat) : (if r.getLsbD i = true then (X : (ZMod 2)[X]) ^ i else 0) * X =
      if r.getLsbD i = true then X ^ (i + 1) else 0 := by
    rw [ite_mul, zero_mul, ← pow_succ]
  have hzero : (r <<< 1).getLsbD 0 = false := by simp
  have hlow : bytePolynomial (r <<< 1) = ∑ i ∈ Finset.range 7, if r.getLsbD i = true then (X : (ZMod 2)[X]) ^ (i + 1) else 0 := by
    rw [bytePolynomial, Finset.sum_range_succ', hzero]
    simp only [Bool.false_eq_true, if_false, add_zero]
    exact Finset.sum_congr rfl fun i hi => by rw [hbit i (Finset.mem_range.mp hi)]
  rw [hlow, bytePolynomial, Finset.sum_mul, Finset.sum_range_succ, hterm]
  congr 1
  exact Finset.sum_congr rfl fun i _ => hterm i

theorem bytePolynomial_seven : bytePolynomial 7 = X ^ 2 + X + 1 := by
  simp [bytePolynomial, Finset.sum_range_succ]
  ring

/-- One step of the register divides by the divisor (R82). -/
theorem divisor_dvd_crcBit (r : Byte) : divisor ∣ bytePolynomial r * X - bytePolynomial (crcBit r) := by
  have hmsb : r.msb = r.getLsbD 7 := BitVec.msb_eq_getLsbD_last r
  rw [bytePolynomial_shift, crcBit, hmsb]
  cases r.getLsbD 7 with
  | false => simp
  | true =>
    have hstep : bytePolynomial (r <<< 1) + X ^ 8 - (bytePolynomial (r <<< 1) + (X ^ 2 + X + 1)) = divisor := by
      rw [add_sub_add_left_eq_sub, CharTwo.sub_eq_add, divisor]
      ring
    simp only [if_true, bytePolynomial_xor, bytePolynomial_seven, hstep, dvd_refl]

/-- Steps of the register, one after the other. -/
theorem divisor_dvd_steps (n : Nat) (r : Byte) :
    divisor ∣ bytePolynomial r * X ^ n - bytePolynomial (crcBit^[n] r) := by
  induction n generalizing r with
  | zero => simp
  | succ n ih =>
    have hsplit : bytePolynomial r * X ^ (n + 1) - bytePolynomial (crcBit^[n] (crcBit r)) =
        (bytePolynomial r * X - bytePolynomial (crcBit r)) * X ^ n +
          (bytePolynomial (crcBit r) * X ^ n - bytePolynomial (crcBit^[n] (crcBit r))) := by ring
    rw [Function.iterate_succ_apply, hsplit]
    exact dvd_add ((divisor_dvd_crcBit r).mul_right _) (ih _)

/-- Settles O25: a byte is fed in by eight steps of the register, each of which divides. -/
theorem checkByteIsTheRemainder : Obligations.CheckByteIsTheRemainder := by
  refine ⟨rfl, fun bytes b => ?_⟩
  have hbyte : crc8 (bytes ++ [b]) = crcBit^[8] (crc8 bytes ^^^ b) := by
    rw [crc8, List.foldl_append]
    rfl
  rw [hbyte, ← bytePolynomial_xor]
  exact divisor_dvd_steps 8 _

end Sys2Proof.Machine

namespace Sys2Proof.Machine

/-! ### An own arrival beside the line -/

theorem requestState_lineBlind (o : UrgentOrder) : LineBlind (requestState o) := fun s low r m run mark =>
  onLine_ite (s.station.transmits = true) { s with urgent := placeState o s.urgent } s low r m run mark

theorem countNoisy_lineBlind (noisy : Bool) : LineBlind (countNoisy noisy) := by
  intro s low r m run mark
  cases noisy <;> rfl

theorem ownAskCompletes_lineBlind (k : Byte) : LineBlind (ownAskCompletes k) := by
  intro s low r m run mark
  have hentry : (s.onLine low r m run mark).entry k = s.entry k := rfl
  cases he : s.entry k with
  | none => simp only [ownAskCompletes, hentry, he]
  | some e =>
    rcases hc : e.claim with _ | ⟨a, d⟩ | (_ | w) | _ | q
    case free =>
      simp only [ownAskCompletes, hentry, he, hc]
      exact requestState_lineBlind _ s low r m run mark
    case asking.none =>
      simp only [ownAskCompletes, hentry, he, hc]
      rfl
    all_goals simp only [ownAskCompletes, hentry, he, hc]

theorem enterOffline_lineBlind (reason : LeftReason) : LineBlind (enterOffline reason) := by
  intro s low r m run mark
  let leaving : State := { s with station := .offline, leaveLimit := none }
  have hstop := stopTransmitting_lineBlind leaving low r m run mark
  let cleared (t : State) : State := dropOwn { t with table := List.replicate 16 none, roster := List.replicate 32 none }
  exact (congrArg (fun t => produce (.left reason) (cleared t)) hstop).trans
    (produce_lineBlind (.left reason) (cleared (stopTransmitting leaving)) low r m run mark)

theorem ownCompletes_lineBlind (o : Order) (joining : Bool) : LineBlind (ownCompletes o joining) := by
  intro s low r m run mark
  rcases o with u | k | l | p
  · rfl
  · exact ownAskCompletes_lineBlind k s low r m run mark
  · cases l with
    | false => rfl
    | true => exact enterOffline_lineBlind .heard (ownPresence joining s) low r m run mark
  · exact produce_lineBlind _ s low r m run mark

theorem ownArrival_lineBlind (a : Attempt) (noisy : Bool) : LineBlind (ownArrival a noisy) := by
  intro s low r m run mark
  let counted : State := countNoisy noisy (count .framesOwn s)
  have hcounted := countNoisy_lineBlind noisy (count .framesOwn s) low r m run mark
  let arrived (t : State) : State :=
    ownHeard { t with access := .slotWait, driveFaults := 0, lastSource := t.ownAddr }
  exact (congrArg (fun t => ownCompletes a.order a.frame.body.joiningFlag (arrived t)) hcounted).trans
    (ownCompletes_lineBlind a.order a.frame.body.joiningFlag (arrived counted) low r m run mark)

/-- An own arrival reads the attempt's order and frame, not how far it has come. -/
theorem ownArrival_attempt (a : Attempt) (noisy : Bool) (n : Nat) (x : Access) (s : State) :
    ownArrival (a.matchedTo n) noisy { s with access := x } = ownArrival a noisy s := by
  cases noisy <;> rfl

/-- Beside the line: the receiver and the run may be set before or behind. -/
theorem LineBlind.receiver_run {f : State → State} (h : LineBlind f) (s : State) (r : Receiver) (run : Option Nat) :
    f { s with receiver := r, run := run } = { f s with receiver := r, run := run } := by
  have hsame : f s = (f s).onLine s.inReset s.receiver s.monitor s.run s.longMark :=
    h s s.inReset s.receiver s.monitor s.run s.longMark
  rw [hsame]
  exact h s s.inReset r s.monitor run s.longMark

theorem refreshAccess_receiver_run (s : State) (r : Receiver) (run : Option Nat) :
    refreshAccess { s with receiver := r, run := run } = { refreshAccess s with receiver := r, run := run } := by
  have hcases : s.access = .empty ∨ (s.access = .slotWait ∨ s.access = .openWait) ∨ s.access = .off ∨
      ∃ a, s.access = .driving a := by cases s.access <;> simp
  let t : State := { s with receiver := r, run := run }
  rcases hcases with ha | ha | ha | ⟨a, ha⟩
  · cases hno : s.noOrders with
    | true => rw [refreshAccess_no_orders (.inl ha) hno, refreshAccess_no_orders (s := t) (.inl ha) hno]
    | false =>
      rw [refreshAccess_joined ha hno, refreshAccess_joined (s := t) ha hno]
      rfl
  · cases hno : s.noOrders with
    | true => rw [refreshAccess_no_orders (.inr ha) hno, refreshAccess_no_orders (s := t) (.inr ha) hno]
    | false => rw [refreshAccess_waiting ha hno, refreshAccess_waiting (s := t) ha hno]
  · rw [refreshAccess_off ha, refreshAccess_off (s := t) ha]
  · rw [refreshAccess_driving ha, refreshAccess_driving (s := t) ha]

/-! ### The line behind a character -/

/-- The line behind a clean character that was heard: IDLE with idle age 0, and the cut edge a candidate (R103,
R107). -/
def State.heardCharacter (s : State) (cut : Bool) : State :=
  { s with
    receiver := if cut then .starting 1 [] else .searching
    monitor := .idle 0 0, run := if cut then some 0 else none, longMark := false
    access := s.access.lineBusy }

theorem characterPasses_eq {s : State} (hruns : s.monitor.timersRun = true) (data : Byte) (mark cut : Bool) :
    characterPasses data mark cut s = s.heardCharacter cut := by
  have hmonitor (n : Nat) : (s.monitor.afterClean n).isStuck = false ∧ (s.monitor.afterClean n).characterEnds = .idle 0 0 := by
    cases hm : s.monitor <;> simp_all [Monitor.timersRun, Monitor.afterClean, Monitor.isStuck, Monitor.characterEnds]
  obtain ⟨hstuck, hidle⟩ := hmonitor (if cut then 0 else 8 * (trailing .recessive data mark + 1))
  simp only [characterPasses, characterEnds, runEnds, hstuck, hidle]
  cases cut <;> rfl

theorem heardCharacter_passed (s : State) (cut : Bool) :
    { s.heardCharacter cut with decoder := .waiting } =
      if cut then { s.passed with receiver := .starting 1 [], run := some 0 } else s.passed := by
  cases cut <;> rfl

theorem not_isStuck_of_timersRun {s : State} (h : s.monitor.timersRun = true) : s.monitor.isStuck = false := by
  cases hm : s.monitor <;> simp_all [Monitor.timersRun, Monitor.isStuck]

/-! ### The Frame Decoder takes a character -/

theorem takeCharacter_mark {s : State} (h : s.monitor.isSettling = false) (data : Byte) (noisy : Bool) :
    takeCharacter data true noisy false s = markCharacter data noisy s := by
  cases hm : s.monitor with
  | settling n => rw [hm] at h; cases h
  | _ => simp [takeCharacter, hm]

theorem takeCharacter_body {s : State} (h : s.monitor.isSettling = false) (data : Byte) (noisy : Bool) :
    takeCharacter data false noisy false s = bodyCharacter data noisy s := by
  cases hm : s.monitor with
  | settling n => rw [hm] at h; cases h
  | _ => simp [takeCharacter, hm]

theorem takeCharacter_framingError {s : State} (h : s.monitor.isSettling = false) (data : Byte) (mark noisy : Bool) :
    takeCharacter data mark noisy true s = brokenCharacter s := by
  cases hm : s.monitor with
  | settling n => rw [hm] at h; cases h
  | _ => simp [takeCharacter, hm]

/-- A length field in range gives the length, where it has been received (R79, R83, R85). -/
theorem expectedLength_fits {k : Kind} {chars : List Byte} (h : LengthFits k chars) :
    expectedLength k chars = some (frameLength k chars) := by
  obtain ⟨hpresence, hpost⟩ := h
  cases k with
  | presence =>
    match chars with
    | [] => rfl
    | [c0] => rfl
    | c0 :: c :: rest => exact if_pos (hpresence rfl c rfl)
  | post =>
    match chars with
    | [] => rfl
    | [c0] => rfl
    | [c0, d] => rfl
    | c0 :: d :: l :: rest => exact if_pos (hpost rfl l rfl)
  | _ => rfl

theorem growFrame_malformed {a : Assembly} (h : expectedLength a.kind a.chars = none) (s : State) :
    growFrame a s = { discardFrame .malformed s with decoder := .skipping } := by
  simp only [growFrame, h]

theorem growFrame_grows {a : Assembly} {n : Option Nat} (h : expectedLength a.kind a.chars = some n)
    (hn : n ≠ some a.chars.length) (s : State) :
    growFrame a s = { s with decoder := .assembling { a with expected := n } } := by
  simp only [growFrame, h]
  exact if_neg hn

theorem growFrame_whole {a : Assembly} (h : expectedLength a.kind a.chars = some (some a.chars.length)) (s : State) :
    growFrame a s = checkFrame { a with expected := some a.chars.length } s := by
  simp only [growFrame, h, if_true]

/-- A whole frame with a wrong check byte (R88). -/
theorem checkFrame_crcFail {a : Assembly} {before : List Byte} {data : Byte} (hchars : a.chars = before ++ [data])
    (h : data ≠ crc8 before) (s : State) :
    checkFrame a s = discardFrame .crcFail { s with decoder := .waiting } := by
  have hcrc : a.crcMatches = false := by
    rw [Assembly.crcMatches, hchars, List.getLast?_concat, List.dropLast_concat]
    simpa using h
  simp only [checkFrame, hcrc, Bool.false_eq_true, if_false]

theorem drop_one_concat_dropLast (l : List Byte) (x : Byte) : ((l ++ [x]).drop 1).dropLast = l.drop 1 := by
  cases l with
  | nil => rfl
  | cons y l => exact List.dropLast_concat

/-- A whole frame with its check byte that spells a body (R88). -/
theorem checkFrame_spelled {a : Assembly} {before : List Byte} {b : Body} (hchars : a.chars = before ++ [crc8 before])
    (hb : readBody a.kind (before.drop 1) = some b) (s : State) :
    checkFrame a s =
      if ({ source := a.source, body := b } : Frame).inRange = true then
        intactFrame { source := a.source, body := b } a { s with decoder := .waiting }
      else discardFrame .malformed { s with decoder := .waiting } := by
  have hcrc : a.crcMatches = true := by
    rw [Assembly.crcMatches, hchars, List.getLast?_concat, List.dropLast_concat, beq_self_eq_true]
  have hframe : a.frame = some { source := a.source, body := b } := by
    rw [Assembly.frame, hchars, drop_one_concat_dropLast, hb]
    rfl
  simp only [checkFrame, hcrc, hframe, if_true]

theorem intactFrame_foreign {s : State} (h : s.isDriving = false) (f : Frame) (a : Assembly) :
    intactFrame f a s = foreignFrame f a.noisy s := by
  cases ha : s.access with
  | driving t => simp [State.isDriving, ha, Access.attempt] at h
  | _ => simp only [intactFrame, ha]

end Sys2Proof.Machine

namespace Sys2Proof.Machine

/-! ### CHARACTER at a station that does not drive -/

theorem kind_expected_one (k : Kind) (data : Byte) :
    expectedLength k [data] = some (frameLength k [data]) ∧ frameLength k [data] ≠ some 1 := by
  cases k <;> exact ⟨rfl, by simp [frameLength]⟩

theorem lineBusy_silent {s : State} (h : s.isDriving = false) (cut : Bool) : (s.heardCharacter cut).isDriving = false := by
  rw [State.isDriving] at h ⊢
  show s.access.lineBusy.attempt.isSome = false
  cases ha : s.access with
  | driving a => rw [ha] at h; cases h
  | _ => rfl

section Silent

variable {s : State} (hr : s.inReset = false) (hruns : s.monitor.timersRun = true) (hsilent : s.isDriving = false)
  (data : Byte) (noisy cut : Bool)
include hr hruns hsilent

theorem exec_markCharacter :
    exec (.character data true noisy false cut) s =
      .next (refreshAccess (markCharacter data noisy (s.heardCharacter cut))) := by
  refine (live_eq hr).trans ?_
  rw [characterRow_clean (not_isStuck_of_timersRun hruns) hsilent, characterPasses_eq hruns, takeCharacter_mark rfl]

theorem exec_bodyCharacter :
    exec (.character data false noisy false cut) s =
      .next (refreshAccess (bodyCharacter data noisy (s.heardCharacter cut))) := by
  refine (live_eq hr).trans ?_
  rw [characterRow_clean (not_isStuck_of_timersRun hruns) hsilent, characterPasses_eq hruns, takeCharacter_body rfl]

theorem exec_bodyCharacter_assembling {a : Assembly} (ha : s.decoder = .assembling a) :
    exec (.character data false noisy false cut) s = .next (refreshAccess
      (growFrame { a with chars := a.chars ++ [data], noisy := a.noisy || noisy } (s.heardCharacter cut))) := by
  have hbody : bodyCharacter data noisy (s.heardCharacter cut) =
      growFrame { a with chars := a.chars ++ [data], noisy := a.noisy || noisy } (s.heardCharacter cut) := by
    have hd : (s.heardCharacter cut).decoder = .assembling a := ha
    simp only [bodyCharacter, hd]
  rw [exec_bodyCharacter hr hruns hsilent, hbody]

/-- A framing error is taken at point 6 of the stop bit (R87, R103, R108). -/
theorem exec_framingError (mark : Bool) :
    exec (.character data mark noisy true cut) s = .next (refreshAccess
      { s with
        receiver := .recovering, monitor := .busy, run := some (framingErrorRun data mark), longMark := false
        access := s.access.lineBusy, decoder := .skipping
        lastSource := if s.decoder = .skipping then s.lastSource else 0
        counters := if s.decoder = .skipping then s.counters else s.counters.bump .broken }) := by
  have hpasses : framingErrorPasses data mark s =
      { s with
        receiver := .recovering, monitor := .busy, run := some (framingErrorRun data mark), longMark := false
        access := s.access.lineBusy } := by
    cases hm : s.monitor with
    | settling n | stuck n => rw [hm] at hruns; cases hruns
    | _ => simp only [framingErrorPasses, hm]; rfl
  refine (live_eq hr).trans (congrArg (fun t => Host.Outcome.next (refreshAccess t)) ?_)
  rw [characterRow_framingError (not_isStuck_of_timersRun hruns) hsilent, hpasses, takeCharacter_framingError rfl]
  cases hd : s.decoder with
  | skipping =>
    simp only [brokenCharacter, if_true]
  | waiting => simp [brokenCharacter, discardFrame, count]
  | assembling a => simp [brokenCharacter, discardFrame, count]

end Silent

/-- The frame under assembly is broken by the character that starts the next (R87). -/
theorem breakFrame_eq (s : State) :
    breakFrame s = (match s.decoder with
      | .assembling _ => { s with lastSource := 0, counters := s.counters.bump .broken }
      | _ => s) := rfl

theorem markCharacter_starts {data : Byte} {k : Kind} (hk : kindOf data = some k) (noisy : Bool) (s : State) :
    markCharacter data noisy s =
      { breakFrame s with
        decoder := .assembling
          { kind := k, source := sourceOf data, chars := [data], noisy := noisy, expected := frameLength k [data] } } := by
  obtain ⟨hlength, hone⟩ := kind_expected_one k data
  have hmark : markCharacter data noisy s =
      growFrame { kind := k, source := sourceOf data, chars := [data], expected := none, noisy := noisy } (breakFrame s) := by
    simp only [markCharacter, hk]
  rw [hmark, growFrame_grows hlength hone]

/-! ### CHARACTER of the own frame -/

section Driving

variable {s : State} {a : Attempt} (hr : s.inReset = false) (hruns : s.monitor.timersRun = true)
  (ha : s.access = .driving a)
include hr ha

/-- Any other character than the own one in its place is not taken (R137; log 16). -/
theorem exec_character_foreign (data : Byte) (mark noisy framingError cut : Bool)
    (h : ¬(framingError = false ∧ a.frame.encode[s.decoder.received]? = some data ∧
      mark = (s.decoder.received == 0))) :
    exec (.character data mark noisy framingError cut) s = .next s := by
  have hrow : characterRow data mark noisy framingError cut s = s := by
    rw [characterRow]
    split
    · rfl
    · simp only [ha]
      exact if_neg h
  exact (live_eq hr).trans (by rw [hrow, refreshAccess_driving ha])

include hruns in
theorem exec_character_own {data : Byte} {mark : Bool} (noisy cut : Bool)
    (hdata : a.frame.encode[s.decoder.received]? = some data) (hmark : mark = (s.decoder.received == 0)) :
    exec (.character data mark noisy false cut) s = .next (refreshAccess (takeCharacter data mark noisy false
      { s.heardCharacter cut with access := .driving (a.matchedTo s.decoder.received) })) := by
  have hrow : characterRow data mark noisy false cut s = takeCharacter data mark noisy false
      { s.heardCharacter cut with access := .driving (a.matchedTo s.decoder.received) } := by
    rw [characterRow, if_neg (by rw [not_isStuck_of_timersRun hruns]; exact Bool.false_ne_true)]
    simp only [ha, hdata, ← hmark, and_self, if_true]
    rw [characterPasses_eq hruns]
  exact (live_eq hr).trans (by rw [hrow])

end Driving

/-- Where the characters so far do not make the frame malformed, the length field fits (R85). -/
theorem fits_of_expectedLength {k : Kind} {chars : List Byte} {n : Option Nat} (h : expectedLength k chars = some n) :
    LengthFits k chars := by
  cases k with
  | presence =>
    refine ⟨fun _ c hc => ?_, nofun⟩
    match chars with
    | [] => cases hc
    | [c0] => cases hc
    | c0 :: c1 :: rest =>
      obtain rfl := Option.some.inj hc
      rw [expectedLength] at h
      split at h
      · next hfits => exact hfits
      · cases h
  | post =>
    refine ⟨nofun, fun _ l hl => ?_⟩
    match chars with
    | [] => cases hl
    | [c0] => cases hl
    | [c0, d] => cases hl
    | c0 :: d :: l' :: rest =>
      obtain rfl := Option.some.inj hl
      rw [expectedLength] at h
      split at h
      · next hfits => exact hfits
      · cases h
  | _ => exact ⟨nofun, nofun⟩

/-- The characters of a frame fix no other length than the frame's, whatever the check byte (R79). -/
theorem frameLength_take_chars {f : Frame} (h : f.lengthInRange = true) (check : Byte) (j : Nat) :
    expectedLength f.body.kind ((f.chars ++ [check]).take j) =
        some (frameLength f.body.kind ((f.chars ++ [check]).take j)) ∧
      (j < f.encode.length → frameLength f.body.kind ((f.chars ++ [check]).take j) ≠ some j) := by
  have htake := expectedLength_take_chars h check j
  have hfits := expectedLength_fits (fits_of_expectedLength htake)
  refine ⟨hfits, fun hj hlength => ?_⟩
  rw [hfits, hlength] at htake
  have hsome := Option.some.inj htake
  split at hsome
  · cases hsome
  · have := Option.some.inj hsome
    omega

theorem frameLength_take {f : Frame} (h : f.lengthInRange = true) (j : Nat) :
    expectedLength f.body.kind (f.encode.take j) = some (frameLength f.body.kind (f.encode.take j)) ∧
      (j < f.encode.length → frameLength f.body.kind (f.encode.take j) ≠ some (f.encode.take j).length) := by
  obtain ⟨hlength, hne⟩ := frameLength_take_chars h (crc8 f.chars) j
  exact ⟨hlength, fun hj => by rw [List.length_take_of_le hj.le]; exact hne hj⟩

end Sys2Proof.Machine

namespace Sys2Proof.Machine

/-! ### The frame under assembly grows -/

/-- A character that does not complete its frame, and one that does (R85, R88). -/
theorem assembling_takes {s : State} (hr : s.inReset = false) (hruns : s.monitor.timersRun = true)
    (hsilent : s.isDriving = false) (data : Byte) (noisy cut : Bool) {a : Assembly} (ha : s.decoder = .assembling a)
    (hfits : LengthFits a.kind (a.chars ++ [data])) :
    (frameLength a.kind (a.chars ++ [data]) ≠ some (a.chars ++ [data]).length →
      exec (.character data false noisy false cut) s = .next (refreshAccess
        { s.heardCharacter cut with
          decoder := .assembling
            { a with
              chars := a.chars ++ [data], expected := frameLength a.kind (a.chars ++ [data])
              noisy := a.noisy || noisy } })) ∧
    (frameLength a.kind (a.chars ++ [data]) = some (a.chars ++ [data]).length →
      (data ≠ crc8 a.chars → exec (.character data false noisy false cut) s = .next (refreshAccess
        { s.heardCharacter cut with
          decoder := .waiting, lastSource := 0, counters := s.counters.bump .crcFail })) ∧
      ∀ b, data = crc8 a.chars → readBody a.kind (a.chars.drop 1) = some b →
        exec (.character data false noisy false cut) s = .next (refreshAccess
          (if ({ source := a.source, body := b } : Frame).inRange = true then
            foreignFrame { source := a.source, body := b } (a.noisy || noisy)
              { s.heardCharacter cut with decoder := .waiting }
           else { s.heardCharacter cut with
            decoder := .waiting, lastSource := 0, counters := s.counters.bump .malformed }))) := by
  let grown : Assembly := { a with chars := a.chars ++ [data], noisy := a.noisy || noisy }
  have hexpected : expectedLength grown.kind grown.chars = some (frameLength a.kind (a.chars ++ [data])) :=
    expectedLength_fits hfits
  have hexec := exec_bodyCharacter_assembling hr hruns hsilent data noisy cut ha
  refine ⟨fun hmore => ?_, fun hwhole => ⟨fun hcrc => ?_, fun b hcrc hb => ?_⟩⟩
  · rw [hexec, growFrame_grows hexpected hmore]
  · rw [hwhole] at hexpected
    rw [hexec, growFrame_whole hexpected, checkFrame_crcFail (before := a.chars) rfl hcrc]
    rfl
  · subst hcrc
    rw [hwhole] at hexpected
    have hsilent' : ({ s.heardCharacter cut with decoder := .waiting } : State).isDriving = false :=
      lineBusy_silent hsilent cut
    have hcheck := checkFrame_spelled (a := { grown with expected := some grown.chars.length }) (before := a.chars) rfl
      hb (s.heardCharacter cut)
    rw [hexec, growFrame_whole hexpected, hcheck, intactFrame_foreign]
    · rfl
    · exact hsilent'

/-! ### The own frame -/

section Own

variable {s : State} {a : Attempt} (hr : s.inReset = false) (hruns : s.monitor.timersRun = true)
  (ha : s.access = .driving a)
include hr hruns ha

/-- The first character of the own frame starts its assembly (R84, R137). -/
theorem own_first_character {data : Byte} (noisy cut : Bool)
    (hreceived : s.decoder.received = 0) (hdata : a.frame.encode[0]? = some data)
    (hdecoder : s.decoder = .waiting ∨ s.decoder = .skipping) :
    exec (.character data true noisy false cut) s = .next
      { s.heardCharacter cut with
        access := .driving (a.matchedTo 0)
        decoder := .assembling
          { kind := a.frame.body.kind, source := a.frame.source, chars := [data], noisy := noisy
            expected := frameLength a.frame.body.kind [data] } } := by
  obtain ⟨hkind, hsource⟩ := characterZero_read a.frame.body.kind a.frame.source
  have hzero : natByte (a.frame.body.kind.code + 8 * a.frame.source.toNat) = data := by
    simpa [Frame.encode, Frame.chars] using hdata
  rw [hzero] at hkind hsource
  have hbreak : breakFrame { s.heardCharacter cut with access := .driving (a.matchedTo 0) } =
      { s.heardCharacter cut with access := .driving (a.matchedTo 0) } := by
    have hd : (s.heardCharacter cut).decoder = s.decoder := rfl
    rcases hdecoder with h | h <;> simp only [breakFrame, hd, h]
  rw [exec_character_own hr hruns ha noisy cut (by rw [hreceived]; exact hdata) (by rw [hreceived]; rfl), hreceived,
    takeCharacter_mark rfl, markCharacter_starts hkind, hbreak, hsource, refreshAccess_driving rfl]

variable {b : Assembly} {data : Byte} (hb : s.decoder = .assembling b) (hkind : b.kind = a.frame.body.kind)
  (hsource : b.source = a.frame.source) (hchars : b.chars = a.frame.encode.take b.chars.length)
  (hafter : 1 ≤ b.chars.length) (hrange : a.frame.inRange = true)
  (hdata : a.frame.encode[b.chars.length]? = some data)
include hb hkind hsource hchars hafter hrange hdata

omit hr hruns ha hb hkind hsource hafter hrange in
theorem own_chars : b.chars ++ [data] = a.frame.encode.take (b.chars.length + 1) := by
  rw [List.take_add_one, ← hchars, hdata]
  rfl

omit hkind hsource hrange in
theorem own_body_character (noisy cut : Bool) :
    exec (.character data false noisy false cut) s = .next (refreshAccess
      (growFrame { b with chars := a.frame.encode.take (b.chars.length + 1), noisy := b.noisy || noisy }
        { s.heardCharacter cut with access := .driving (a.matchedTo b.chars.length) })) := by
  have hreceived : s.decoder.received = b.chars.length := by rw [hb]; rfl
  have hmark : false = (s.decoder.received == 0) := by
    rw [hreceived]
    exact (beq_eq_false_iff_ne.mpr (by omega)).symm
  have hbody (t : State) (ht : t.decoder = .assembling b) : bodyCharacter data noisy t =
      growFrame { b with chars := b.chars ++ [data], noisy := b.noisy || noisy } t := by
    simp only [bodyCharacter, ht]
  rw [exec_character_own hr hruns ha noisy cut (by rw [hreceived]; exact hdata) hmark, takeCharacter_body rfl,
    hbody, hreceived, own_chars hchars hdata]
  exact hb

omit hsource in
/-- A character within the own frame is added (R137). -/
theorem own_next_character (noisy cut : Bool) (hmore : b.chars.length + 1 < a.frame.encode.length) :
    exec (.character data false noisy false cut) s = .next
      { s.heardCharacter cut with
        access := .driving (a.matchedTo b.chars.length)
        decoder := .assembling
          { b with
            chars := a.frame.encode.take (b.chars.length + 1), noisy := b.noisy || noisy
            expected := frameLength b.kind (a.frame.encode.take (b.chars.length + 1)) } } := by
  obtain ⟨hlength, hne⟩ := frameLength_take (Frame.lengthInRange_of_inRange hrange) (b.chars.length + 1)
  rw [← hkind] at hlength hne
  rw [own_body_character hr hruns ha hb hchars hafter hdata noisy cut, growFrame_grows hlength (hne hmore),
    refreshAccess_driving rfl]

/-- The last character of the own frame is the own arrival, at the end of a cut stop bit too (R92, R140). -/
theorem own_last_character (noisy cut : Bool) (hlast : b.chars.length + 1 = a.frame.encode.length) :
    ∃ t, exec (.attemptCompletes (b.noisy || noisy)) s = .next t ∧
      exec (.character data false noisy false cut) s =
        .next (if cut then { t with receiver := .starting 1 [], run := some 0 } else t) := by
  have hlengthRange := Frame.lengthInRange_of_inRange hrange
  let arrived (t : State) : State := ownArrival a (b.noisy || noisy) t
  have hcompletes : exec (.attemptCompletes (b.noisy || noisy)) s = .next (refreshAccess (arrived s.passed)) := by
    refine (live_eq hr).trans ?_
    have hrow : attemptCompletesRow (b.noisy || noisy) s = arrived (framePasses s) := by
      simp only [attemptCompletesRow, ha]
      rfl
    rw [hrow, framePasses_eq_passed hruns]
  refine ⟨_, hcompletes, ?_⟩
  have hwhole : a.frame.encode.take (b.chars.length + 1) = a.frame.encode := by rw [hlast, List.take_length]
  let grown : Assembly := { b with chars := a.frame.encode, noisy := b.noisy || noisy }
  have hexpected : expectedLength grown.kind grown.chars = some (some grown.chars.length) := by
    show expectedLength b.kind a.frame.encode = _
    rw [hkind]
    exact expectedLength_encode hlengthRange
  have hframe : ({ source := b.source, body := a.frame.body } : Frame) = a.frame := by rw [hsource]
  have hread : readBody b.kind (a.frame.chars.drop 1) = some a.frame.body := by
    rw [hkind]
    exact readBody_chars hlengthRange
  have hown (t : State) (ht : t.access = .driving (a.matchedTo b.chars.length)) :
      intactFrame a.frame { grown with expected := some grown.chars.length } t =
        ownArrival (a.matchedTo b.chars.length) (b.noisy || noisy) t := by
    simp only [intactFrame, ht]
    exact if_pos rfl
  have hcheck : growFrame grown { s.heardCharacter cut with access := .driving (a.matchedTo b.chars.length) } =
      arrived { s.heardCharacter cut with decoder := .waiting } := by
    have hspelled := checkFrame_spelled (a := { grown with expected := some grown.chars.length })
      (before := a.frame.chars) rfl hread { s.heardCharacter cut with access := .driving (a.matchedTo b.chars.length) }
    rw [growFrame_whole hexpected, hspelled, hframe, if_pos hrange, hown]
    · exact ownArrival_attempt a _ _ _ { s.heardCharacter cut with decoder := .waiting }
    · rfl
  rw [own_body_character hr hruns ha hb hchars hafter hdata noisy cut, hwhole, hcheck, heardCharacter_passed]
  cases cut with
  | false => rfl
  | true =>
    have hblind := (ownArrival_lineBlind a (b.noisy || noisy)).receiver_run s.passed (.starting 1 []) (some 0)
    exact congrArg Host.Outcome.next ((congrArg refreshAccess hblind).trans (refreshAccess_receiver_run _ _ _))

end Own

end Sys2Proof.Machine

namespace Sys2Proof.Machine

/-! ### CHARACTER by the condition of the decoder -/

/-- A length field out of range makes the frame malformed (R85). -/
theorem expectedLength_presence_high {c0 data : Byte} (h : 16 < (data &&& 31).toNat) :
    expectedLength .presence [c0, data] = none := if_neg (Nat.not_le.mpr h)

theorem expectedLength_post_out {c0 d data : Byte} (h : data.toNat = 0 ∨ 16 < data.toNat) :
    expectedLength .post [c0, d, data] = none := if_neg (by omega)

/-- Settles O28: by the condition of the decoder and, while the station drives, by the place in the own frame. -/
theorem characterIsTakenByTheDecoder : Obligations.CharacterIsTakenByTheDecoder := by
  intro s data mark noisy cut hr hruns p old malformed heard
  have hold : breakFrame p = old := by
    simp only [breakFrame, old]
    rfl
  refine ⟨fun hsilent => ⟨fun hd => ?_, fun hd => ?_, fun kind hk => ?_, fun hk => ?_,
    fun a c0 hd hkind hchars hlength => ?_, fun a c0 d hd hkind hchars hlength => ?_, fun a hd hfits => ?_, ?_⟩,
    fun a ha => ?_⟩
  · have hbody : bodyCharacter data noisy p = count .strayChars p := by
      have hp : p.decoder = .waiting := hd
      simp only [bodyCharacter, hp]
    exact (exec_bodyCharacter hr hruns hsilent data noisy cut).trans (congrArg (fun t => Host.Outcome.next (refreshAccess t)) hbody)
  · have hbody : bodyCharacter data noisy p = p := by
      have hp : p.decoder = .skipping := hd
      simp only [bodyCharacter, hp]
    exact (exec_bodyCharacter hr hruns hsilent data noisy cut).trans (congrArg (fun t => Host.Outcome.next (refreshAccess t)) hbody)
  · refine (exec_markCharacter hr hruns hsilent data noisy cut).trans (congrArg (fun t => Host.Outcome.next (refreshAccess t)) ?_)
    refine (markCharacter_starts hk noisy p).trans ?_
    rw [hold]
    cases kind <;> rfl
  · refine (exec_markCharacter hr hruns hsilent data noisy cut).trans (congrArg (fun t => Host.Outcome.next (refreshAccess t)) ?_)
    show markCharacter data noisy p = _
    simp only [markCharacter, hk, hold]
    rfl
  · have hnone : expectedLength a.kind (a.chars ++ [data]) = none := by
      rw [hkind, hchars]
      exact expectedLength_presence_high hlength
    rw [exec_bodyCharacter_assembling hr hruns hsilent data noisy cut hd, growFrame_malformed hnone]
    rfl
  · have hnone : expectedLength a.kind (a.chars ++ [data]) = none := by
      rw [hkind, hchars]
      exact expectedLength_post_out hlength
    rw [exec_bodyCharacter_assembling hr hruns hsilent data noisy cut hd, growFrame_malformed hnone]
    rfl
  · exact assembling_takes hr hruns hsilent data noisy cut hd hfits
  · exact exec_framingError hr hruns hsilent data noisy false mark
  · intro i read
    have hi : s.decoder.received = i := by
      show s.decoder.received = (match s.decoder with
        | .assembling b => b.chars.length
        | _ => 0)
      cases s.decoder <;> rfl
    refine ⟨fun framingError hother => ?_, fun hrange hdata => ⟨fun hd => ?_, fun b hd hkind hsource hchars hafter => ?_⟩⟩
    · refine exec_character_foreign hr ha data mark noisy framingError cut ?_
      rintro ⟨hframing, hplace, hmark⟩
      rw [hi] at hplace hmark
      rcases hother with h | h | h
      · rw [hframing] at h; cases h
      · exact h hplace
      · refine h (hmark.trans ?_)
        rfl
    · have hzero : i = 0 := by
        rw [← hi]
        rcases hd with h | h <;> rw [h] <;> rfl
      have hfirst := own_first_character hr hruns ha noisy cut (hi.trans hzero) (by rw [← hzero]; exact hdata) hd
      have hread : read = .driving (a.matchedTo 0) := by
        show Access.driving (a.matchedTo i) = _
        rw [hzero]
      rw [hread]
      exact hfirst
    · have hlength : b.chars.length = i := by
        rw [← hi, hd]
        rfl
      rw [← hlength] at hdata hchars hafter
      have hread : read = .driving (a.matchedTo b.chars.length) := by
        show Access.driving (a.matchedTo i) = _
        rw [hlength]
      refine ⟨fun hmore => ?_, fun hlast => ?_⟩
      · rw [hread, ← hlength]
        rw [← hlength] at hmore
        exact own_next_character hr hruns ha hd hkind hchars hafter hrange hdata noisy cut hmore
      · rw [← hlength] at hlast
        exact own_last_character hr hruns ha hd hkind hsource hchars hafter hrange hdata noisy cut hlast

end Sys2Proof.Machine

namespace Sys2Proof.Machine

/-! ### An arrival and the decoder -/

/-- Where the line can bring a frame, a frame under assembly is taken for its first characters (log 22). -/
theorem arrival_waiting {s : State} (h : s.Hears) (f : Frame) (noisy : Bool) :
    arrival f noisy { s with decoder := .waiting } = arrival f noisy s := by
  obtain ⟨-, hsilent, hruns⟩ := h
  have hsettles : s.monitor.isSettling = false := by
    cases hm : s.monitor with
    | settling n => rw [hm] at hruns; cases hruns
    | _ => rfl
  have hhears : ¬ (s.isDriving || s.monitor.isStuck || s.monitor.isSettling) = true := by
    rw [hsilent, not_isStuck_of_timersRun hruns, hsettles]
    exact Bool.false_ne_true
  rw [arrival, arrival, if_neg hhears]
  exact if_neg hhears

theorem live_arrival_waiting {s : State} (h : s.Hears) (f : Frame) (noisy : Bool) :
    live (arrival f noisy) s = live (arrival f noisy) { s with decoder := .waiting } := by
  rw [live_eq h.1, live_eq (s := { s with decoder := .waiting }) h.1, arrival_waiting h]

/-! ### A frame character by character -/

theorem takeFrame_concat {l : List (Byte × Bool)} (h : l ≠ []) (c : Byte × Bool) (s : State) :
    takeFrame (l ++ [c]) s = takeCharacter c.1 false c.2 false (takeFrame l s) := by
  cases l with
  | nil => exact absurd rfl h
  | cons x l => simp only [takeFrame, List.cons_append, List.foldl_append, List.foldl_cons, List.foldl_nil]

theorem length_chars_check (f : Frame) (check : Byte) : (f.chars ++ [check]).length = f.encode.length := by
  rw [Frame.encode, List.length_append, List.length_append]
  rfl

/-- What stands under assembly behind the first `j` characters, with this noise (R84). -/
def Frame.assembly (f : Frame) (check : Byte) (noise : List Bool) (j : Nat) : Assembly :=
  { kind := f.body.kind, source := f.source, chars := (f.chars ++ [check]).take j
    expected := frameLength f.body.kind ((f.chars ++ [check]).take j), noisy := (noise.take j).any id }

/-- The first `j + 1` characters with their noise are the first `j` and the next. -/
theorem zip_take_succ {chars : List Byte} {noise : List Bool} {j : Nat} (hx : j < chars.length) (hy : j < noise.length) :
    (chars.zip noise).take (j + 1) = (chars.zip noise).take j ++ [(chars[j], noise[j])] := by
  have hzip : j < (chars.zip noise).length := by
    rw [List.length_zip]
    omega
  rw [List.take_add_one, List.getElem?_eq_getElem hzip, List.getElem_zip]
  rfl

theorem any_take_succ {noise : List Bool} {j : Nat} (hy : j < noise.length) :
    (noise.take (j + 1)).any id = ((noise.take j).any id || noise[j]) := by
  rw [List.take_add_one, List.getElem?_eq_getElem hy, List.any_append]
  simp

section Frames

variable {f : Frame} {s : State} {check : Byte} {noise : List Bool} (hlength : f.lengthInRange = true)
  (hwaits : s.decoder = .waiting) (hsettles : s.monitor.isSettling = false)
  (hnoise : noise.length = f.encode.length)
include hlength hwaits hsettles hnoise

omit hlength hwaits in
/-- The next character is added to those before. -/
theorem takeFrame_next {j : Nat} (hj : j + 1 < f.encode.length)
    (hbefore : takeFrame (((f.chars ++ [check]).zip noise).take (j + 1)) s =
      { s with decoder := .assembling (f.assembly check noise (j + 1)) }) :
    takeFrame (((f.chars ++ [check]).zip noise).take (j + 1 + 1)) s =
      growFrame { f.assembly check noise (j + 1) with
        chars := (f.chars ++ [check]).take (j + 1 + 1), noisy := (noise.take (j + 1 + 1)).any id }
        { s with decoder := .assembling (f.assembly check noise (j + 1)) } := by
  have hx : j + 1 < (f.chars ++ [check]).length := by rw [length_chars_check]; exact hj
  have hy : j + 1 < noise.length := by rw [hnoise]; exact hj
  have hnonempty : ((f.chars ++ [check]).zip noise).take (j + 1) ≠ [] := by
    refine List.ne_nil_of_length_pos ?_
    rw [List.length_take, List.length_zip]
    omega
  have hchars : (f.chars ++ [check]).take (j + 1 + 1) = (f.chars ++ [check]).take (j + 1) ++ [(f.chars ++ [check])[j + 1]] := by
    rw [List.take_add_one, List.getElem?_eq_getElem hx]
    rfl
  rw [zip_take_succ hx hy, takeFrame_concat hnonempty, hbefore, hchars, any_take_succ hy]
  exact takeCharacter_body (s := { s with decoder := .assembling (f.assembly check noise (j + 1)) }) hsettles _ _

/-- The first characters of a frame stand under assembly (R84). -/
theorem takeFrame_take (j : Nat) (hj : j + 1 < f.encode.length) :
    takeFrame (((f.chars ++ [check]).zip noise).take (j + 1)) s =
      { s with decoder := .assembling (f.assembly check noise (j + 1)) } := by
  induction j with
  | zero =>
    obtain ⟨hkind, hsource⟩ := characterZero_read f.body.kind f.source
    obtain ⟨n0, noise, rfl⟩ := List.exists_cons_of_length_pos (l := noise) (by omega)
    have hbreak : breakFrame s = s := by simp only [breakFrame, hwaits]
    have hmark := markCharacter_starts hkind n0 s
    rw [hbreak, hsource] at hmark
    have hnoisy : ((n0 :: noise).take 1).any id = n0 := by simp
    have hassembly : f.assembly check (n0 :: noise) 1 =
        { kind := f.body.kind, source := f.source, chars := [natByte (f.body.kind.code + 8 * f.source.toNat)]
          expected := frameLength f.body.kind [natByte (f.body.kind.code + 8 * f.source.toNat)], noisy := n0 } := by
      rw [Frame.assembly, hnoisy]
      rfl
    rw [Nat.zero_add, hassembly]
    exact (takeCharacter_mark hsettles _ _).trans hmark
  | succ j ih =>
    obtain ⟨hgrows, hne⟩ := frameLength_take_chars hlength check (j + 1 + 1)
    have hcount : ((f.chars ++ [check]).take (j + 1 + 1)).length = j + 1 + 1 :=
      List.length_take_of_le (by rw [length_chars_check]; exact hj.le)
    rw [takeFrame_next hsettles hnoise (by omega) (ih (by omega)), growFrame_grows hgrows]
    · rfl
    · show _ ≠ some ((f.chars ++ [check]).take (j + 1 + 1)).length
      rw [hcount]
      exact hne hj

/-- The last character completes the frame, which is checked (R88). -/
theorem takeFrame_whole :
    ∃ a : Assembly, a.kind = f.body.kind ∧ a.source = f.source ∧ a.chars = f.chars ++ [check] ∧
      a.noisy = noise.any id ∧ ∃ t : State, { t with decoder := .waiting } = s ∧
        takeFrame ((f.chars ++ [check]).zip noise) s = checkFrame a t := by
  have hlen : (f.chars ++ [check]).length = f.encode.length := length_chars_check f check
  obtain ⟨j, hj⟩ : ∃ j, f.encode.length = j + 1 + 1 := ⟨f.body.chars.length, by rw [← hlen]; simp [Frame.chars]⟩
  have hbefore := takeFrame_take (check := check) hlength hwaits hsettles hnoise j (by omega)
  have hlast := takeFrame_next (check := check) hsettles hnoise (by omega) hbefore
  have hall : ((f.chars ++ [check]).zip noise).take (j + 1 + 1) = (f.chars ++ [check]).zip noise :=
    List.take_of_length_le (by rw [List.length_zip]; omega)
  have hchars : (f.chars ++ [check]).take (j + 1 + 1) = f.chars ++ [check] := List.take_of_length_le (by omega)
  have hnoisy : noise.take (j + 1 + 1) = noise := List.take_of_length_le (by omega)
  rw [hall, hchars, hnoisy] at hlast
  let grown : Assembly := { f.assembly check noise (j + 1) with chars := f.chars ++ [check], noisy := noise.any id }
  have hexpected : expectedLength grown.kind grown.chars = some (some grown.chars.length) := by
    show expectedLength f.body.kind (f.chars ++ [check]) = some (some (f.chars ++ [check]).length)
    rw [expectedLength_whole hlength, hlen]
  refine ⟨{ grown with expected := some grown.chars.length }, rfl, rfl, rfl, rfl, _, ?_,
    hlast.trans (growFrame_whole hexpected _)⟩
  rw [← hwaits]

end Frames

/-- Settles O27: an arrival row takes the decoder as WAITING, and the characters of a frame are assembled one by one
until the last has it checked. -/
theorem charactersOfAFrameAreItsArrival : Obligations.CharactersOfAFrameAreItsArrival := by
  refine ⟨fun s c hears hown hc => ?_, fun f noise s hnoise hwaits hsilent hsettles => ⟨fun hrange => ?_,
    fun hlength => ⟨fun check hcrc => ?_, fun hrange => ?_⟩⟩⟩
  · cases c with
    | presenceArrival p j l ps noisy => exact live_arrival_waiting hears _ _
    | askArrival p k noisy => exact live_arrival_waiting hears _ _
    | objectArrival p k q r g noisy => exact live_arrival_waiting hears _ _
    | holdArrival p k g noisy => exact live_arrival_waiting hears _ _
    | freeArrival p k g w noisy => exact live_arrival_waiting hears _ _
    | postArrival p d l noisy => exact live_arrival_waiting hears _ _
    | addressClash p noisy =>
      have hrow (t : State) (ht : t.ownAddr = s.ownAddr) :
          clashRow p noisy t = arrival (clashFrame s.ownAddr p) noisy t := by
        rw [clashRow, ht, if_neg hown]
      refine (live_eq hears.1).trans (Eq.trans ?_ (live_eq (s := { s with decoder := .waiting }) hears.1).symm)
      rw [hrow s rfl, hrow { s with decoder := .waiting } rfl, arrival_waiting hears]
    | _ => cases hc
  · have hlength := Frame.lengthInRange_of_inRange hrange
    obtain ⟨a, hkind, hsource, hchars, hnoisy, t, ht, htake⟩ :=
      takeFrame_whole (check := crc8 f.chars) hlength hwaits hsettles hnoise
    have hread : readBody a.kind (f.chars.drop 1) = some f.body := by rw [hkind]; exact readBody_chars hlength
    have hcheck := checkFrame_spelled hchars hread t
    rw [hsource, ht] at hcheck
    rw [Frame.encode, htake, hcheck, if_pos hrange, intactFrame_foreign hsilent, hnoisy]
  · obtain ⟨a, -, -, hchars, -, t, ht, htake⟩ := takeFrame_whole (check := check) hlength hwaits hsettles hnoise
    rw [htake, checkFrame_crcFail hchars hcrc, ht]
    rfl
  · obtain ⟨a, hkind, hsource, hchars, -, t, ht, htake⟩ :=
      takeFrame_whole (check := crc8 f.chars) hlength hwaits hsettles hnoise
    have hread : readBody a.kind (f.chars.drop 1) = some f.body := by rw [hkind]; exact readBody_chars hlength
    have hcheck := checkFrame_spelled hchars hread t
    rw [hsource, ht] at hcheck
    rw [Frame.encode, htake, hcheck, if_neg (by rw [hrange]; exact Bool.false_ne_true)]
    rfl

end Sys2Proof.Machine

namespace Sys2Proof.Machine

/-! ### The split rule at an entry -/

/-- A state order joins the urgent lane where the station transmits (R117, R126). -/
theorem requestState_ite {o : UrgentOrder} {s : State} {b : Bool} {u : List UrgentOrder} (hb : s.station.transmits = b)
    (hu : s.urgent = u) : requestState o s = { s with urgent := if b then placeState o u else u } := by
  subst hb hu
  rw [requestState]
  cases s.station.transmits <;> rfl

section Split

variable {s : State} {n : Nat} {e : Entry} (h : s.EntryAt n e)
include h

/-- The station keeps the key with an advanced generation (R57). -/
theorem splitKeep_at (hmine : e.claim = .mine) (carried : Byte) :
    splitKeep e.key e carried s =
      { produce (.reasserted e.key (natByte (max e.gen.toNat carried.toNat + 1)))
          (s.putEntry n { e with gen := natByte (max e.gen.toNat carried.toNat + 1) }) with
        urgent := if s.station.transmits then placeState (.hold e.key) s.urgent else s.urgent } := by
  have hput : setClaimGen e.key .mine (natByte (max e.gen.toNat carried.toNat + 1)) s =
      s.putEntry n { e with gen := natByte (max e.gen.toNat carried.toNat + 1) } := by
    rw [setClaimGen_at h, ← hmine]
  rw [splitKeep, hput]
  exact requestState_ite (congrArg _ (produce_station _ _)) (produce_urgent _ _)

/-- The station gives the key up (R58). -/
theorem splitGiveUp_at (q : Addr) (c : Claim) (g : Byte) :
    splitGiveUp e.key q c g s =
      produce (.lost e.key .split q)
        { s.putEntry n { e with claim := c, gen := g } with
          urgent := s.urgent.filter fun o => !o.isHoldOf e.key } := by
  rw [splitGiveUp, setClaimGen_at h]
  rfl

theorem claimHold_mine (hmine : e.claim = .mine) (repeats : Bool) (q : Addr) (g : Byte) :
    claimHold repeats q e.key g s = split e.key e q g (.theirs q) g s := by
  simp only [claimHold, h.entry, hmine]

end Split

/-! ### The rule of one pair -/

theorem pairedEntry_key (own p : Addr) (g : Byte) (e : Entry) : (pairedEntry own p g e).key = e.key := by
  unfold pairedEntry
  cases e.claim with
  | mine => dsimp only; split <;> rfl
  | _ => rfl

/-- What a pair of a PRESENCE of `p` with this generation does at its key's entry, in a station that transmits or not
(R34, R35, R53, R57, R58). -/
def pairRule (own p : Addr) (transmits : Bool) (g : Byte) : KeyRule where
  entry := pairedEntry own p g
  notice := pairNotice own p g
  urgent e lane :=
    if e.claim = .mine then
      if own.toNat < p.toNat then (if transmits then placeState (.hold e.key) lane else lane)
      else lane.filter fun o => !o.isHoldOf e.key
    else lane
  normal e lane := match e.claim with
    | .asking _ => lane.filter fun o => !o.isAskOf e.key
    | _ => lane
  entry_key := pairedEntry_key own p g

/-- A state with a notice produced behind a change of the table and the lanes. -/
theorem produce_changed {s : State} {t : List (Option Entry)} {u : List UrgentOrder} {l : List NormalOrder} (m : Notice) :
    produce m { s with table := t, urgent := u, normal := l } =
      { s with table := t, urgent := u, normal := l, notices := (produceAll [m] s).notices
               counters := (produceAll [m] s).counters } :=
  produce_eq_of_congr (s := s) (t := { s with table := t, urgent := u, normal := l }) rfl rfl rfl m

/-- A pair is taken by its rule (R53). -/
theorem claimHold_pair {s : State} {n : Nat} {e : Entry} (h : s.EntryAt n e) (p : Addr) (g : Byte) :
    claimHold false p e.key g s = (pairRule s.ownAddr p s.station.transmits g).takenAt n e s := by
  have htaken (hnot : e.claim ≠ .mine) (hasking : ∀ w, e.claim ≠ .asking w) (hrepeats : e.claim = .theirs p → e.gen ≠ g)
      (hclaim : claimHold false p e.key g s =
        produce (.taken e.key p g) (s.putEntry n { e with claim := .theirs p, gen := g })) :
      claimHold false p e.key g s = (pairRule s.ownAddr p s.station.transmits g).takenAt n e s := by
    refine hclaim.trans ((produce_changed (s := s) (.taken e.key p g)).trans ?_)
    cases hc : e.claim with
    | mine => exact absurd hc hnot
    | asking w => exact absurd hc (hasking w)
    | theirs x =>
      have hne : ¬ (x = p ∧ e.gen = g) := fun hsame => hrepeats (by rw [hc, hsame.1]) hsame.2
      simp [KeyRule.takenAt, pairRule, pairedEntry, pairNotice, hc, hne]
    | _ => simp [KeyRule.takenAt, pairRule, pairedEntry, pairNotice, hc]
  cases hc : e.claim with
  | free => exact htaken (by simp [hc]) (by simp [hc]) (by simp [hc]) (claimHold_enters h (.inl hc) false p g)
  | peerAsking a d =>
    exact htaken (by simp [hc]) (by simp [hc]) (by simp [hc]) (claimHold_enters h (.inr ⟨a, d, hc⟩) false p g)
  | theirs x =>
    by_cases hsame : x = p ∧ e.gen = g
    · have hclaim : claimHold false p e.key g s = s := by
        simp only [claimHold, h.entry, hc, hsame, and_self, if_true]
      have hentry : pairedEntry s.ownAddr p g e = e := by
        obtain ⟨rfl, rfl⟩ := hsame
        simp only [pairedEntry, hc]
        rw [← hc]
      rw [hclaim]
      simp [KeyRule.takenAt, pairRule, pairNotice, hentry, hc, hsame, h.set_self, produceAll]
    · refine htaken (by simp [hc]) (by simp [hc]) (fun hp hg => hsame ⟨?_, hg⟩) ?_
      · rw [hc] at hp
        exact Claim.theirs.inj hp
      · simp only [claimHold, h.entry, hc, setClaimGen_at h]
        exact if_neg fun hs => hsame ⟨hs.1, hs.2.1⟩
  | asking w =>
    rw [claimHold_asking h hc, State.askLost]
    by_cases honce : e.want = .once
    · have hlost := produce_changed (s := s) (t := s.table.set n (some { e with claim := .theirs p, gen := g }))
        (u := s.urgent) (l := s.normal.filter fun o => !o.isAskOf e.key) (.refused e.key .peerHeld p)
      refine (if_pos honce).trans ?_
      refine (congrArg (fun t : State => t.putEntry n { e with claim := .theirs p, gen := g, want := .none }) hlost).trans ?_
      simp [KeyRule.takenAt, pairRule, pairedEntry, pairNotice, hc, honce, State.putEntry]
    · simp [KeyRule.takenAt, pairRule, pairedEntry, pairNotice, hc, honce, State.putEntry, produceAll]
  | mine =>
    rw [claimHold_mine h hc, split]
    by_cases hkeeps : s.ownAddr.toNat < p.toNat
    · rw [if_pos hkeeps, splitKeep_at h hc]
      have hproduce := produce_changed (s := s)
        (t := s.table.set n (some { e with gen := natByte (max e.gen.toNat g.toNat + 1) })) (u := s.urgent) (l := s.normal)
        (.reasserted e.key (natByte (max e.gen.toNat g.toNat + 1)))
      refine (congrArg (fun t : State => { t with
        urgent := if s.station.transmits then placeState (.hold e.key) s.urgent else s.urgent }) hproduce).trans ?_
      simp [KeyRule.takenAt, pairRule, pairedEntry, pairNotice, hc, hkeeps]
    · rw [if_neg hkeeps, splitGiveUp_at h]
      refine (produce_changed (s := s) (.lost e.key .split p)).trans ?_
      simp [KeyRule.takenAt, pairRule, pairedEntry, pairNotice, hc, hkeeps, State.putEntry]

end Sys2Proof.Machine

namespace Sys2Proof.Machine

/-! ### The pairs of a PRESENCE, one after the other -/

/-- The urgent lane behind the pairs (R57, R58). -/
def pairsUrgent (own p : Addr) (transmits : Bool) (mine : Byte → Bool) (pairs : List (Byte × Byte))
    (lane : List UrgentOrder) : List UrgentOrder :=
  pairs.foldl (fun lane x =>
    if mine x.1 = false then lane
    else if p.toNat ≤ own.toNat then lane.filter fun o => !o.isHoldOf x.1
    else if transmits then placeState (.hold x.1) lane
    else lane) lane

/-- An entry behind the pairs with its key (R53). -/
def pairsEntry (own p : Addr) (pairs : List (Byte × Byte)) (e : Entry) : Entry :=
  (pairs.filter fun x => x.1 == e.key).foldl (fun f x => pairedEntry own p x.2 f) e

/-- The state behind the pairs of a PRESENCE of `p` (R53). -/
def State.paired (s : State) (p : Addr) (pairs : List (Byte × Byte)) : State :=
  { s with
    table := s.table.map fun place => place.map (pairsEntry s.ownAddr p pairs)
    urgent := pairsUrgent s.ownAddr p s.station.transmits s.isMine pairs s.urgent
    normal := keptOrders s pairs
    notices := (produceAll (pairNotices s.ownAddr p pairs s.entry) s).notices
    counters := (produceAll (pairNotices s.ownAddr p pairs s.entry) s).counters }

/-- Behind a pair the entry is the station's still, or the peer's (R53). -/
theorem pairedEntry_claim (own p : Addr) (g : Byte) (e : Entry) :
    (pairedEntry own p g e).claim = if e.claim = .mine ∧ own.toNat < p.toNat then .mine else .theirs p := by
  unfold pairedEntry
  cases hc : e.claim with
  | mine => by_cases hlow : own.toNat < p.toNat <;> simp [hlow]
  | _ => simp

theorem pairsEntry_key (own p : Addr) (pairs : List (Byte × Byte)) (e : Entry) :
    (pairsEntry own p pairs e).key = e.key := by
  rw [pairsEntry]
  generalize pairs.filter (fun x => x.1 == e.key) = l
  induction l generalizing e with
  | nil => rfl
  | cons x l ih => exact (ih _).trans (pairedEntry_key _ _ _ _)

theorem pairsEntry_cons (own p : Addr) (x : Byte × Byte) (pairs : List (Byte × Byte)) (e : Entry) :
    pairsEntry own p (x :: pairs) e =
      pairsEntry own p pairs (if e.key = x.1 then pairedEntry own p x.2 e else e) := by
  by_cases hk : e.key = x.1
  · have hx : (x.1 == e.key) = true := beq_iff_eq.mpr hk.symm
    rw [if_pos hk, pairsEntry, pairsEntry, List.filter_cons_of_pos (p := fun y : Byte × Byte => y.1 == e.key) hx, pairedEntry_key]
    rfl
  · have hx : ¬ (x.1 == e.key) = true := fun h => hk (beq_iff_eq.mp h).symm
    rw [if_neg hk, pairsEntry, pairsEntry, List.filter_cons_of_neg (p := fun y : Byte × Byte => y.1 == e.key) hx]

/-- An entry whose key is not listed is as it was. -/
theorem pairsEntry_unlisted (own p : Addr) {pairs : List (Byte × Byte)} {e : Entry}
    (h : (pairs.any fun x => x.1 == e.key) = false) : pairsEntry own p pairs e = e := by
  have hnone : pairs.filter (fun x => x.1 == e.key) = [] :=
    List.filter_eq_nil_iff.mpr fun x hx hk => by
      rw [List.any_eq_false] at h
      exact h x hx hk
  rw [pairsEntry, hnone]
  rfl

theorem isMine_eq (s : State) (k : Byte) : s.isMine k = s.holdsAt (fun e => e.claim == .mine) k := by
  rw [State.isMine, State.holdsAt]
  cases he : s.entry k with
  | none => rfl
  | some e => cases hc : e.claim <;> simp [hc]

/-- The entry is ASKING. -/
def Entry.asks (e : Entry) : Bool := match e.claim with
  | .asking _ => true
  | _ => false

theorem isAsking_eq (s : State) (k : Byte) :
    s.isAsking k = s.holdsAt Entry.asks k := by
  rw [State.isAsking, State.holdsAt]
  cases he : s.entry k with
  | none => rfl
  | some e => cases hc : e.claim <;> simp [Entry.asks, hc]

/-- Orders of keys taken away for a list of pairs, the first pair before the others. -/
theorem filter_pairs_cons {α : Type} (l : List α) {m m' : Byte → Bool} (hit : Byte → α → Bool) (x : Byte × Byte)
    (rest : List (Byte × Byte)) (hm : ∀ j, m' j = (m j && j != x.1)) :
    (l.filter fun o => !(x :: rest).any fun y => m y.1 && hit y.1 o) =
      (if m x.1 then l.filter fun o => !hit x.1 o else l).filter fun o => !rest.any fun y => m' y.1 && hit y.1 o := by
  have hsame (o : α) (hfree : m x.1 = false ∨ hit x.1 o = false) :
      (rest.any fun y => m' y.1 && hit y.1 o) = rest.any fun y => m y.1 && hit y.1 o := by
    refine Bool.eq_iff_iff.mpr ?_
    rw [List.any_eq_true, List.any_eq_true]
    refine exists_congr fun y => and_congr_right fun _ => ?_
    rw [hm]
    by_cases hy : y.1 = x.1
    · rcases hfree with h | h <;> simp [hy, h]
    · simp [hy]
  cases hx : m x.1 with
  | false =>
    refine List.filter_congr fun o _ => ?_
    rw [hsame o (.inl hx), List.any_cons, hx, Bool.false_and, Bool.false_or]
  | true =>
    rw [if_pos rfl, List.filter_filter]
    refine List.filter_congr fun o _ => ?_
    rw [List.any_cons, hx, Bool.true_and]
    cases ho : hit x.1 o with
    | true => simp
    | false => rw [hsame o (.inr ho)]; simp

/-- Where the station gives keys up, the lane loses their HOLD orders (R58). -/
theorem pairsUrgent_gives_up {own p : Addr} (h : p.toNat ≤ own.toNat) (transmits : Bool) (mine : Byte → Bool)
    (pairs : List (Byte × Byte)) (lane : List UrgentOrder) :
    pairsUrgent own p transmits mine pairs lane =
      lane.filter fun o => !pairs.any fun x => mine x.1 && o.isHoldOf x.1 := by
  induction pairs generalizing lane with
  | nil => simp [pairsUrgent]
  | cons x pairs ih =>
    have hstep : pairsUrgent own p transmits mine (x :: pairs) lane =
        pairsUrgent own p transmits mine pairs (if mine x.1 then lane.filter fun o => !o.isHoldOf x.1 else lane) := by
      cases hx : mine x.1 <;> simp [pairsUrgent, hx, h]
    rw [hstep, ih]
    cases hx : mine x.1 with
    | false => simp [hx]
    | true =>
      rw [if_pos rfl, List.filter_filter]
      refine List.filter_congr fun o _ => ?_
      rw [List.any_cons, hx, Bool.true_and, Bool.not_or, Bool.and_comm]

section Step

variable {s : State} {n : Nat} {e : Entry} (h : s.EntryAt n e) (p : Addr) (g : Byte)
include h

/-- The entries behind the first pair. -/
theorem pairRule_entry (j : Byte) :
    ((pairRule s.ownAddr p s.station.transmits g).takenAt n e s).entry j =
      if j = e.key then (s.entry j).map (pairedEntry s.ownAddr p g) else s.entry j := by
  have hkeys := (pairRule s.ownAddr p s.station.transmits g).takenAt_table h
  rw [State.entry, hkeys, findEntry_modify j e.key _ (pairRule s.ownAddr p s.station.transmits g).entry_key]
  by_cases hj : j = e.key
  · simp only [hj, if_true]
    rfl
  · simp only [hj, if_false, Option.map_id']
    rfl

theorem isAsking_pairRule (j : Byte) :
    ((pairRule s.ownAddr p s.station.transmits g).takenAt n e s).isAsking j = (s.isAsking j && j != e.key) := by
  rw [isAsking_eq, isAsking_eq, State.holdsAt, State.holdsAt, pairRule_entry h]
  by_cases hj : j = e.key
  · subst hj
    rw [if_pos rfl, h.entry]
    by_cases hkeeps : e.claim = .mine ∧ s.ownAddr.toNat < p.toNat <;> simp [Entry.asks, pairedEntry_claim, hkeeps]
  · simp [hj]

theorem isMine_pairRule_keeps (hlow : s.ownAddr.toNat < p.toNat) (j : Byte) :
    ((pairRule s.ownAddr p s.station.transmits g).takenAt n e s).isMine j = s.isMine j := by
  rw [isMine_eq, isMine_eq, State.holdsAt, State.holdsAt, pairRule_entry h]
  by_cases hj : j = e.key
  · subst hj
    rw [if_pos rfl, h.entry]
    by_cases hmine : e.claim = .mine <;> simp [pairedEntry_claim, hlow, hmine]
  · simp [hj]

theorem isMine_pairRule_gives_up (hhigh : p.toNat ≤ s.ownAddr.toNat) (j : Byte) :
    ((pairRule s.ownAddr p s.station.transmits g).takenAt n e s).isMine j = (s.isMine j && j != e.key) := by
  rw [isMine_eq, isMine_eq, State.holdsAt, State.holdsAt, pairRule_entry h]
  by_cases hj : j = e.key
  · subst hj
    rw [if_pos rfl, h.entry]
    simp [pairedEntry_claim, Nat.not_lt.mpr hhigh]
  · simp [hj]

end Step

end Sys2Proof.Machine

namespace Sys2Proof.Machine

/-! ### The pairs as one change -/

section Step

variable {s : State} {n : Nat} {e : Entry} (h : s.EntryAt n e) (p : Addr) (g : Byte) (rest : List (Byte × Byte))
include h

/-- The table behind the first pair and then the others. -/
theorem paired_table :
    ((pairRule s.ownAddr p s.station.transmits g).takenAt n e s).table.map
        (fun place => place.map (pairsEntry s.ownAddr p rest)) =
      s.table.map fun place => place.map (pairsEntry s.ownAddr p ((e.key, g) :: rest)) := by
  rw [KeyRule.takenAt_table _ h, modifyEntry, List.map_map]
  refine List.map_congr_left fun place _ => ?_
  cases place with
  | none => rfl
  | some f =>
    simp only [Function.comp_apply, Option.map_some, pairsEntry_cons]
    rfl

theorem paired_normal :
    keptOrders ((pairRule s.ownAddr p s.station.transmits g).takenAt n e s) rest =
      keptOrders s ((e.key, g) :: rest) := by
  have hnormal : ((pairRule s.ownAddr p s.station.transmits g).takenAt n e s).normal =
      if s.isAsking e.key then s.normal.filter (fun o : NormalOrder => !o.isAskOf e.key) else s.normal := by
    rw [isAsking_eq, State.holdsAt, h.entry]
    show (match e.claim with
      | .asking _ => s.normal.filter fun o : NormalOrder => !o.isAskOf e.key
      | _ => s.normal) = _
    cases hc : e.claim <;> simp [Entry.asks, hc]
  rw [keptOrders, keptOrders, hnormal, filter_pairs_cons s.normal (fun k o => NormalOrder.isAskOf k o) (e.key, g) rest
    (isAsking_pairRule h p g)]

theorem paired_urgent :
    pairsUrgent s.ownAddr p s.station.transmits
        ((pairRule s.ownAddr p s.station.transmits g).takenAt n e s).isMine rest
        ((pairRule s.ownAddr p s.station.transmits g).takenAt n e s).urgent =
      pairsUrgent s.ownAddr p s.station.transmits s.isMine ((e.key, g) :: rest) s.urgent := by
  have hmine : s.isMine e.key = decide (e.claim = .mine) := by
    rw [isMine_eq, State.holdsAt, h.entry]
    rfl
  have hurgent : ((pairRule s.ownAddr p s.station.transmits g).takenAt n e s).urgent =
      if e.claim = .mine then
        if s.ownAddr.toNat < p.toNat then (if s.station.transmits then placeState (.hold e.key) s.urgent else s.urgent)
        else s.urgent.filter fun o => !o.isHoldOf e.key
      else s.urgent := rfl
  by_cases hlow : s.ownAddr.toNat < p.toNat
  · have hkeeps : ((pairRule s.ownAddr p s.station.transmits g).takenAt n e s).isMine = s.isMine :=
      funext (isMine_pairRule_keeps h p g hlow)
    have hnot : ¬ p.toNat ≤ s.ownAddr.toNat := Nat.not_le.mpr hlow
    rw [hkeeps, hurgent]
    by_cases hm : e.claim = .mine <;> simp [pairsUrgent, hmine, hm, hlow, hnot]
  · have hhigh : p.toNat ≤ s.ownAddr.toNat := Nat.not_lt.mp hlow
    have hlane : ((pairRule s.ownAddr p s.station.transmits g).takenAt n e s).urgent =
        if s.isMine e.key then s.urgent.filter fun o => !o.isHoldOf e.key else s.urgent := by
      rw [hurgent, hmine]
      by_cases hm : e.claim = .mine <;> simp [hm, hlow]
    rw [pairsUrgent_gives_up hhigh, pairsUrgent_gives_up hhigh, hlane,
      filter_pairs_cons s.urgent (fun k o => UrgentOrder.isHoldOf k o) (e.key, g) rest
        (isMine_pairRule_gives_up h p g hhigh)]

theorem paired_notices :
    (produceAll (pairNotices s.ownAddr p rest ((pairRule s.ownAddr p s.station.transmits g).takenAt n e s).entry)
        ((pairRule s.ownAddr p s.station.transmits g).takenAt n e s)).notices =
      (produceAll (pairNotices s.ownAddr p ((e.key, g) :: rest) s.entry) s).notices ∧
    (produceAll (pairNotices s.ownAddr p rest ((pairRule s.ownAddr p s.station.transmits g).takenAt n e s).entry)
        ((pairRule s.ownAddr p s.station.transmits g).takenAt n e s)).counters =
      (produceAll (pairNotices s.ownAddr p ((e.key, g) :: rest) s.entry) s).counters := by
  have hentries : ((pairRule s.ownAddr p s.station.transmits g).takenAt n e s).entry =
      fun j => if j = e.key then (s.entry e.key).map (pairedEntry s.ownAddr p g) else s.entry j := by
    funext j
    rw [pairRule_entry h]
    by_cases hj : j = e.key
    · rw [if_pos hj, if_pos hj, hj]
    · rw [if_neg hj, if_neg hj]
  have hcons : pairNotices s.ownAddr p ((e.key, g) :: rest) s.entry =
      (pairNotice s.ownAddr p g e).toList ++
        pairNotices s.ownAddr p rest ((pairRule s.ownAddr p s.station.transmits g).takenAt n e s).entry := by
    rw [hentries, pairNotices, h.entry]
    rfl
  rw [hcons, produceAll_append]
  exact produceAll_congr (t := (pairRule s.ownAddr p s.station.transmits g).takenAt n e s)
    (s := produceAll (pairNotice s.ownAddr p g e).toList s) (produceAll_config _ s).symm rfl rfl _

/-- Taking the first pair and then the others is taking them all. -/
theorem paired_takenAt :
    ((pairRule s.ownAddr p s.station.transmits g).takenAt n e s).paired p rest = s.paired p ((e.key, g) :: rest) := by
  obtain ⟨hnotices, hcounters⟩ := paired_notices h p g rest
  have htable := paired_table h p g rest
  have hurgent := paired_urgent h p g rest
  have hnormal := paired_normal h p g rest
  have hown : ((pairRule s.ownAddr p s.station.transmits g).takenAt n e s).ownAddr = s.ownAddr := rfl
  have hstation : ((pairRule s.ownAddr p s.station.transmits g).takenAt n e s).station = s.station := rfl
  simp only [State.paired, hown, hstation, htable, hurgent, hnormal, hnotices, hcounters]
  rfl

end Step

/-- A pair whose key has no entry is passed over (R15). -/
theorem paired_absent {s : State} {x : Byte × Byte} (h : s.entry x.1 = none) (p : Addr) (rest : List (Byte × Byte)) :
    s.paired p (x :: rest) = s.paired p rest := by
  have htable : s.table.map (fun place => place.map (pairsEntry s.ownAddr p (x :: rest))) =
      s.table.map fun place => place.map (pairsEntry s.ownAddr p rest) := by
    refine List.map_congr_left fun place hplace => ?_
    cases place with
    | none => rfl
    | some e => rw [Option.map_some, Option.map_some, pairsEntry_cons, if_neg (key_ne_of_entry_none h hplace)]
  have hmine : s.isMine x.1 = false := by rw [isMine_eq, State.holdsAt, h]; rfl
  have hasking : s.isAsking x.1 = false := by rw [isAsking_eq, State.holdsAt, h]; rfl
  have hurgent : pairsUrgent s.ownAddr p s.station.transmits s.isMine (x :: rest) s.urgent =
      pairsUrgent s.ownAddr p s.station.transmits s.isMine rest s.urgent := by
    simp [pairsUrgent, hmine]
  have hnormal : keptOrders s (x :: rest) = keptOrders s rest := by simp [keptOrders, hasking]
  have hentry : (fun j => if j = x.1 then (s.entry x.1).map (pairedEntry s.ownAddr p x.2) else s.entry j) = s.entry := by
    funext j
    by_cases hj : j = x.1
    · rw [if_pos hj, hj, h]; rfl
    · rw [if_neg hj]
  have hnotices : pairNotices s.ownAddr p (x :: rest) s.entry = pairNotices s.ownAddr p rest s.entry := by
    obtain ⟨k, g⟩ := x
    rw [pairNotices, hentry, h]
    rfl
  simp only [State.paired, htable, hurgent, hnormal, hnotices]

/-- The pairs of a PRESENCE in one equation (R53). -/
theorem claimPairs_eq {s : State} (h : (tableKeys s.table).Nodup) (p : Addr) (pairs : List (Byte × Byte)) :
    claimPairs p pairs s = s.paired p pairs := by
  induction pairs generalizing s with
  | nil =>
    have htable : s.table.map (fun place => place.map (pairsEntry s.ownAddr p [])) = s.table := by
      refine (List.map_congr_left fun place _ => ?_).trans (List.map_id _)
      cases place <;> rfl
    have hnormal : keptOrders s [] = s.normal := by simp [keptOrders]
    simp only [State.paired, htable, hnormal]
    rfl
  | cons x rest ih =>
    have hcons : claimPairs p (x :: rest) s = claimPairs p rest (claimHold false p x.1 x.2 s) := rfl
    rcases he : s.entry x.1 with _ | e
    · rw [hcons, claimHold_absent he, ih h, paired_absent he]
    · obtain ⟨hkey, n, hat⟩ := exists_entryAt h he
      obtain ⟨k, g⟩ := x
      obtain rfl : e.key = k := hkey
      rw [hcons, claimHold_pair hat, ih (by rw [KeyRule.takenAt_tableKeys _ hat]; exact h), paired_takenAt hat]

end Sys2Proof.Machine

namespace Sys2Proof.Machine

/-! ### The keys that a PRESENCE frees -/

/-- The entry is THEIRS of `p` and its key is not among the pairs (R54). -/
def Entry.unlisted (p : Addr) (pairs : List (Byte × Byte)) (e : Entry) : Bool :=
  e.claim == .theirs p && !pairs.any fun x => x.1 == e.key

/-- What the end of a reconciliation does at one entry (R54). -/
def reconcileRule (p : Addr) (pairs : List (Byte × Byte)) (station : StationState) : KeyRule where
  entry e := if e.unlisted p pairs then { e with claim := e.freedClaim } else e
  notice e := if e.unlisted p pairs then some (.freed e.key p .reconciled) else none
  urgent _ lane := lane
  normal e lane := if e.unlisted p pairs then restartLane station e lane else lane
  entry_key e := by split <;> rfl

theorem reconcileKey_at {s : State} {n : Nat} {e : Entry} (h : s.EntryAt n e) (p : Addr) (pairs : List (Byte × Byte)) :
    reconcileKey p pairs e.key s =
      if e.unlisted p pairs then becomeFree e.key (produce (.freed e.key p .reconciled) s) else s := by
  cases hc : e.claim <;> simp [reconcileKey, h.entry, Entry.unlisted, hc]

theorem reconcileRule_describes (p : Addr) (pairs : List (Byte × Byte)) (station : StationState) :
    (reconcileRule p pairs station).Describes station (reconcileKey p pairs) where
  absent h := by simp only [reconcileKey, h]
  present {n e s} hst h := by
    rw [reconcileKey_at h]
    by_cases hfrees : e.unlisted p pairs = true
    · have hat : (produce (.freed e.key p .reconciled) s).EntryAt n e := h.congr (produce_table _ s)
      rw [if_pos hfrees, becomeFree_lane hat, produce_eq]
      simp [KeyRule.takenAt, reconcileRule, hfrees, hst, State.putEntry, produceAll]
    · rw [if_neg hfrees]
      simp [KeyRule.takenAt, reconcileRule, hfrees, h.set_self, produceAll]

theorem reconcileRule_notices (p : Addr) (pairs : List (Byte × Byte)) (station : StationState) (es : List Entry) :
    es.filterMap (reconcileRule p pairs station).notice =
      ((es.filter (Entry.unlisted p pairs)).map Entry.key).map fun k => .freed k p .reconciled := by
  induction es with
  | nil => rfl
  | cons e es ih =>
    rw [List.filterMap_cons, ih]
    by_cases hfrees : e.unlisted p pairs = true <;> simp [reconcileRule, hfrees]

/-- The restarted asks of these entries, with room for them all (R37). -/
theorem reconcileRule_normal_active (p : Addr) (pairs : List (Byte × Byte)) {es : List Entry} {lane : List NormalOrder}
    (hroom : lane.length + ((es.filter (Entry.unlisted p pairs)).filter (·.want == .wait)).length ≤ 21) :
    es.foldl (fun l e => (reconcileRule p pairs .active).normal e l) lane =
      lane ++ (((es.filter (Entry.unlisted p pairs)).filter (·.want == .wait)).map Entry.key).map .ask := by
  induction es generalizing lane with
  | nil => simp
  | cons e es ih =>
    rw [List.foldl_cons]
    by_cases hfrees : e.unlisted p pairs = true
    · rw [List.filter_cons_of_pos hfrees] at hroom ⊢
      by_cases hwait : e.want = .wait
      · have hw : (e.want == .wait) = true := beq_iff_eq.mpr hwait
        rw [List.filter_cons_of_pos (p := fun e : Entry => e.want == .wait) hw] at hroom ⊢
        rw [List.length_cons] at hroom
        have hjoins : (reconcileRule p pairs .active).normal e lane = lane ++ [.ask e.key] := by
          have hlt : lane.length < 21 := by omega
          simp [reconcileRule, hfrees, restartLane, hwait, hlt]
        rw [hjoins, ih (by rw [List.length_append, List.length_singleton]; omega), List.append_assoc]
        rfl
      · have hw : ¬ (e.want == .wait) = true := fun h => hwait (beq_iff_eq.mp h)
        rw [List.filter_cons_of_neg (p := fun e : Entry => e.want == .wait) hw] at hroom ⊢
        have hstays : (reconcileRule p pairs .active).normal e lane = lane := by simp [reconcileRule, restartLane, hwait]
        rw [hstays, ih hroom]
    · rw [List.filter_cons_of_neg hfrees] at hroom ⊢
      have hstays : (reconcileRule p pairs .active).normal e lane = lane := by simp [reconcileRule, hfrees]
      rw [hstays, ih hroom]

theorem reconcileRule_normal_inactive (p : Addr) (pairs : List (Byte × Byte)) {station : StationState}
    (hst : station ≠ .active) (es : List Entry) (lane : List NormalOrder) :
    es.foldl (fun l e => (reconcileRule p pairs station).normal e l) lane = lane :=
  List.foldl_fixed' (fun e => by simp [reconcileRule, restartLane, hst]) es

/-! ### The entries behind the pairs -/

theorem tableKeys_paired (s : State) (p : Addr) (pairs : List (Byte × Byte)) :
    tableKeys (s.paired p pairs).table = tableKeys s.table :=
  tableKeys_map (pairsEntry_key s.ownAddr p pairs) s.table

theorem entry_paired (s : State) (p : Addr) (pairs : List (Byte × Byte)) (k : Byte) :
    (s.paired p pairs).entry k = (s.entry k).map (pairsEntry s.ownAddr p pairs) :=
  findEntry_map (pairsEntry_key s.ownAddr p pairs) _ _

/-- The pairs do not reach an entry that is not listed. -/
theorem unlisted_pairsEntry (own p : Addr) (pairs : List (Byte × Byte)) (e : Entry) :
    (pairsEntry own p pairs e).unlisted p pairs = e.unlisted p pairs := by
  cases hlisted : pairs.any fun x => x.1 == e.key with
  | true => simp [Entry.unlisted, pairsEntry_key, hlisted]
  | false => rw [pairsEntry_unlisted own p hlisted]

/-- The keys freed are those unlisted in the table before the pairs. -/
theorem unlistedKeys_eq (s : State) (p : Addr) (pairs : List (Byte × Byte)) :
    unlistedKeys s p pairs = s.keysAscending.filter (s.holdsAt (Entry.unlisted p pairs)) := by
  refine List.filter_congr fun k _ => ?_
  rw [State.claimOf, State.holdsAt]
  cases he : s.entry k with
  | none => rfl
  | some e =>
    have hkey : e.key = k := findEntry_key he
    simp [Entry.unlisted, hkey]

theorem holdsAt_paired (s : State) (p : Addr) (pairs : List (Byte × Byte)) :
    (s.paired p pairs).holdsAt (Entry.unlisted p pairs) = s.holdsAt (Entry.unlisted p pairs) := by
  funext k
  rw [State.holdsAt, State.holdsAt, entry_paired]
  cases s.entry k with
  | none => rfl
  | some e => exact unlisted_pairsEntry s.ownAddr p pairs e

theorem holdsAt_waiting_paired (s : State) (p : Addr) (pairs : List (Byte × Byte)) :
    (s.paired p pairs).holdsAt (fun e => e.want == .wait && e.unlisted p pairs) =
      s.holdsAt fun e => e.want == .wait && e.unlisted p pairs := by
  funext k
  rw [State.holdsAt, State.holdsAt, entry_paired]
  cases s.entry k with
  | none => rfl
  | some e =>
    show ((pairsEntry s.ownAddr p pairs e).want == .wait && (pairsEntry s.ownAddr p pairs e).unlisted p pairs) =
      (e.want == .wait && e.unlisted p pairs)
    rw [unlisted_pairsEntry]
    cases hlisted : pairs.any fun x => x.1 == e.key with
    | true => simp [Entry.unlisted, hlisted]
    | false => rw [pairsEntry_unlisted s.ownAddr p hlisted]

/-- A reconciliation is the pairs and then the rule over every key (R53, R54). -/
theorem reconcile_eq {s : State} (h : (tableKeys s.table).Nodup) (p : Addr) (pairs : List (Byte × Byte)) :
    reconcile p pairs s = (reconcileRule p pairs s.station).over s.keysAscending (s.paired p pairs) := by
  have hkeys : (tableKeys (s.paired p pairs).table).Nodup := by rw [tableKeys_paired]; exact h
  have hascending : (s.paired p pairs).keysAscending = s.keysAscending := by
    rw [State.keysAscending, State.keysAscending, tableKeys_paired]
  have hover := (reconcileRule_describes p pairs s.station).overKeys_eq (s := s.paired p pairs) hkeys
    (nodup_keysAscending hkeys)
  rw [hascending] at hover
  rw [reconcile, claimPairs_eq h]
  exact (congrArg (fun ks => overKeys (reconcileKey p pairs) ks (s.paired p pairs)) hascending).trans hover

end Sys2Proof.Machine

namespace Sys2Proof.Machine

/-! ### The reconciliation in one equation -/

/-- An entry behind a reconciliation (R53, R54). -/
def settledEntry (own p : Addr) (pairs : List (Byte × Byte)) (e : Entry) : Entry :=
  if e.unlisted p pairs then { e with claim := e.freedClaim } else pairsEntry own p pairs e

/-- The normal lane behind a reconciliation, whether or not it has room for the restarted asks (R35, R37). -/
def State.reconciledLane (s : State) (p : Addr) (pairs : List (Byte × Byte)) : List NormalOrder :=
  ((s.keysAscending.filterMap (s.paired p pairs).entry).foldl
    (fun lane e => (reconcileRule p pairs s.station).normal e lane) (keptOrders s pairs))

/-- The notices of a reconciliation, in order (R53, R54). -/
def State.reconcileNotices (s : State) (p : Addr) (pairs : List (Byte × Byte)) : List Notice :=
  pairNotices s.ownAddr p pairs s.entry ++ (unlistedKeys s p pairs).map fun k => .freed k p .reconciled

theorem reconcileRule_entry_pairsEntry (own p : Addr) (pairs : List (Byte × Byte)) (station : StationState) (e : Entry) :
    (reconcileRule p pairs station).entry (pairsEntry own p pairs e) = settledEntry own p pairs e := by
  show (if (pairsEntry own p pairs e).unlisted p pairs then
      { pairsEntry own p pairs e with claim := (pairsEntry own p pairs e).freedClaim }
    else pairsEntry own p pairs e) = _
  rw [settledEntry, unlisted_pairsEntry]
  by_cases hfrees : e.unlisted p pairs = true
  · have hlisted : (pairs.any fun x => x.1 == e.key) = false := by
      rw [Entry.unlisted, Bool.and_eq_true, Bool.not_eq_true'] at hfrees
      exact hfrees.2
    rw [if_pos hfrees, if_pos hfrees, pairsEntry_unlisted own p hlisted]
  · rw [if_neg hfrees, if_neg hfrees]

/-- The keys freed, in ascending order, are those of the entries freed. -/
theorem unlistedKeys_entries (s : State) (p : Addr) (pairs : List (Byte × Byte)) :
    ((s.keysAscending.filterMap (s.paired p pairs).entry).filter (Entry.unlisted p pairs)).map Entry.key =
      unlistedKeys s p pairs := by
  rw [keys_filter, holdsAt_paired, unlistedKeys_eq]

theorem restartedAsks_entries (s : State) (p : Addr) (pairs : List (Byte × Byte)) :
    (((s.keysAscending.filterMap (s.paired p pairs).entry).filter (Entry.unlisted p pairs)).filter
        (·.want == .wait)).map Entry.key =
      (unlistedKeys s p pairs).filter fun k => (s.entry k).map Entry.want == some .wait := by
  rw [List.filter_filter, keys_filter, holdsAt_waiting_paired, unlistedKeys_eq, List.filter_filter]
  refine List.filter_congr fun k _ => ?_
  rw [State.holdsAt, State.holdsAt]
  cases s.entry k with
  | none => rfl
  | some e => rfl

section Reconcile

variable {s : State} (h : (tableKeys s.table).Nodup) (p : Addr) (pairs : List (Byte × Byte))
include h

/-- The notices and counters of a reconciliation. -/
theorem reconcile_notices :
    (reconcile p pairs s).notices = (produceAll (s.reconcileNotices p pairs) s).notices ∧
      (reconcile p pairs s).counters = (produceAll (s.reconcileNotices p pairs) s).counters := by
  rw [reconcile_eq h, State.reconcileNotices, produceAll_append]
  have hlist : (s.keysAscending.filterMap (s.paired p pairs).entry).filterMap
      (reconcileRule p pairs s.station).notice = (unlistedKeys s p pairs).map fun k => .freed k p .reconciled := by
    rw [reconcileRule_notices, unlistedKeys_entries]
  have hcongr := produceAll_congr (t := s.paired p pairs) (s := produceAll (pairNotices s.ownAddr p pairs s.entry) s)
    (produceAll_config _ s).symm rfl rfl ((unlistedKeys s p pairs).map fun k => .freed k p .reconciled)
  rw [← hlist] at hcongr ⊢
  exact hcongr

/-- The reconciliation in one equation, whether or not the normal lane has room (R53, R54). -/
theorem reconcile_fields :
    reconcile p pairs s =
      { s with
        table := s.table.map fun place => place.map (settledEntry s.ownAddr p pairs)
        urgent := pairsUrgent s.ownAddr p s.station.transmits s.isMine pairs s.urgent
        normal := s.reconciledLane p pairs
        notices := (produceAll (s.reconcileNotices p pairs) s).notices
        counters := (produceAll (s.reconcileNotices p pairs) s).counters } := by
  have htable : ((reconcileRule p pairs s.station).over s.keysAscending (s.paired p pairs)).table =
      s.table.map fun place => place.map (settledEntry s.ownAddr p pairs) := by
    have hascending : (s.paired p pairs).keysAscending = s.keysAscending := by
      rw [State.keysAscending, State.keysAscending, tableKeys_paired]
    rw [← hascending, KeyRule.over_keysAscending_table]
    show (s.table.map fun place => place.map (pairsEntry s.ownAddr p pairs)).map
      (fun place => place.map (reconcileRule p pairs s.station).entry) = _
    rw [List.map_map]
    refine List.map_congr_left fun place _ => ?_
    cases place with
    | none => rfl
    | some e => exact congrArg some (reconcileRule_entry_pairsEntry s.ownAddr p pairs s.station e)
  have hurgent : ((reconcileRule p pairs s.station).over s.keysAscending (s.paired p pairs)).urgent =
      pairsUrgent s.ownAddr p s.station.transmits s.isMine pairs s.urgent := List.foldl_fixed _
  obtain ⟨hnotices, hcounters⟩ := reconcile_notices h p pairs
  rw [reconcile_eq h] at hnotices hcounters ⊢
  rw [← htable, ← hurgent, ← hnotices, ← hcounters]
  rfl

omit h in
/-- With room for the restarted asks they join the normal lane in ascending order of key (R37). -/
theorem reconciledLane_eq (hroom : (keptOrders s pairs).length + (restartedAsks s p pairs).length ≤ 21) :
    s.reconciledLane p pairs = keptOrders s pairs ++ restartedAsks s p pairs := by
  have hasks := restartedAsks_entries s p pairs
  by_cases hactive : s.station = .active
  · rw [restartedAsks, if_pos hactive, ← hasks] at hroom ⊢
    rw [State.reconciledLane, hactive]
    refine reconcileRule_normal_active p pairs ?_
    rw [List.length_map, List.length_map] at hroom
    exact hroom
  · rw [restartedAsks, if_neg hactive, List.append_nil]
    exact reconcileRule_normal_inactive p pairs hactive _ _

/-- An entry's key is among the keys freed where the entry is (R54). -/
theorem mem_unlistedKeys {e : Entry} (he : some e ∈ s.table) :
    e.key ∈ unlistedKeys s p pairs ↔ e.unlisted p pairs = true := by
  obtain ⟨n, hn⟩ := List.getElem?_of_mem he
  have hat : s.EntryAt n e := .of_nodup h hn
  have hkey : e.key ∈ s.keysAscending := by rw [mem_keysAscending, hat.entry]; rfl
  rw [unlistedKeys_eq, List.mem_filter, and_iff_right hkey, State.holdsAt, hat.entry]
  rfl

end Reconcile

theorem length_keptOrders_le (s : State) (pairs : List (Byte × Byte)) : (keptOrders s pairs).length ≤ s.normal.length :=
  List.length_filter_le _ _

/-- Settles O35: the reconciliation is `reconcile_fields`, with room in the normal lane for the restarted asks. -/
theorem reconciliationTakesThePairsThenFrees : Obligations.ReconciliationTakesThePairsThenFrees := by
  intro s p pairs hlaw hroom q
  have hkeys := hlaw.2.1
  have hlane := reconciledLane_eq p pairs
    ((Nat.add_le_add_right (length_keptOrders_le s pairs) _).trans hroom)
  have htable : (s.table.map fun place => place.map (settledEntry s.ownAddr p pairs)) =
      s.table.map fun place => place.map fun e =>
        if e.key ∈ unlistedKeys s p pairs then
          { e with claim := if e.want = .wait then .asking none else .free }
        else (pairs.filter fun x => x.1 == e.key).foldl (fun f x => pairedEntry s.ownAddr p x.2 f) e := by
    refine List.map_congr_left fun place hplace => ?_
    cases place with
    | none => rfl
    | some e =>
      refine congrArg some ?_
      have hmem := mem_unlistedKeys hkeys p pairs hplace
      rw [settledEntry]
      by_cases hfrees : e.unlisted p pairs = true
      · exact (if_pos hfrees).trans (if_pos (hmem.mpr hfrees)).symm
      · exact (if_neg hfrees).trans (if_neg (mt hmem.mp hfrees)).symm
  rw [reconcile_fields hkeys, hlane, htable]
  rfl

end Sys2Proof.Machine

namespace Sys2Proof.Machine

/-! ### PRESENCE arrivals -/

section Presence

variable {s : State} {p : Addr} {pairs : List (Byte × Byte)} (hears : s.HearsAFrame) (hall : s.DispatchesAll)
  (hp : s.Foreign p) (hfits : pairs.length ≤ 16) (hkeys : ∀ x ∈ pairs, 1 ≤ x.1.toNat ∧ x.1.toNat ≤ 254)
include hears hall hp hfits hkeys

/-- A PRESENCE reaches every block (R94). -/
theorem exec_presenceArrival (joining leaving noisy : Bool) :
    exec (.presenceArrival p joining leaving pairs noisy) s = .next (refreshAccess
      (if leaving then peerDeparts p (s.tookFrame p noisy) else takePresence p joining pairs (s.tookFrame p noisy))) :=
  arrival_reaches_allBlocks (f := { source := p, body := .presence joining leaving pairs }) noisy hears.1 hall
    (inRange_presence hp.1 hfits hkeys joining leaving) (by simp [State.isClash, hp.isOwn_false])

/-- A PRESENCE that is not joining, or that finds the station outside ACTIVE, is reconciled alone (R53, R73). -/
theorem exec_presenceArrival_reconciles {joining : Bool} (h : joining = false ∨ s.station ≠ .active) (noisy : Bool) :
    exec (.presenceArrival p joining false pairs noisy) s =
      .next (refreshAccess (reconcile p pairs (s.heard p (some joining) noisy))) := by
  have hcond : ¬ (joining && s.station == .active) = true := by
    rcases h with h | h <;> simp [h]
  have hstation : (peerHeard p (some joining) (s.tookFrame p noisy)).station = s.station :=
    heard_station s p (some joining) noisy
  rw [exec_presenceArrival hears hall hp hfits hkeys, if_neg Bool.false_ne_true, takePresence]
  simp only [hstation]
  rw [if_neg hcond]
  rfl

/-- A joining PRESENCE is answered in ACTIVE too (R73). -/
theorem exec_presenceArrival_answers (hactive : s.station = .active) (noisy : Bool) :
    exec (.presenceArrival p true false pairs noisy) s =
      .next (refreshAccess (reconcileAndAnswer p pairs (s.heard p (some true) noisy))) := by
  have hstation : (peerHeard p (some true) (s.tookFrame p noisy)).station = .active :=
    (heard_station s p (some true) noisy).trans hactive
  rw [exec_presenceArrival hears hall hp hfits hkeys, if_neg Bool.false_ne_true, takePresence]
  simp only [hstation]
  rfl

end Presence

/-! ### A PRESENCE with one pair -/

/-- Where no entry names the sender as holder, a PRESENCE with one pair frees nothing (R53, R54). -/
theorem reconcile_single {s : State} {n : Nat} {e : Entry} (h : s.EntryAt n e) {p : Addr} (hnone : s.HoldsNone p)
    (g : Byte) : reconcile p [(e.key, g)] s = claimHold false p e.key g s := by
  let t : State := claimHold false p e.key g s
  have hkeeps (k : Byte) : reconcileKey p [(e.key, g)] k t = t := by
    by_cases hk : k = e.key
    · have hlisted : [(e.key, g)].any (fun pair => pair.1 == k) = true := by simp [hk]
      rw [reconcileKey, hlisted]
      cases t.entry k with
      | none => rfl
      | some f => cases hc : f.claim <;> simp [hc]
    · have hother : t.entry k = s.entry k := by
        show (claimHold false p e.key g s).entry k = _
        rw [claimHold_pair h, KeyRule.takenAt_entry _ h hk]
      rw [reconcileKey, hother]
      cases hf : s.entry k with
      | none => rfl
      | some f =>
        cases hc : f.claim with
        | theirs x =>
          have hne : x ≠ p := fun hx => hnone f (findEntry_mem hf) (by rw [hc, hx])
          simp [hc, hne]
        | _ => simp [hc]
  exact List.foldl_fixed' (f := fun t k => reconcileKey p [(e.key, g)] k t) hkeeps t.keysAscending

/-! ### The split rule -/

theorem holdsNone_heard {s : State} {q : Addr} (h : s.HoldsNone q) (p : Addr) (flag : Option Bool) (noisy : Bool) :
    (s.heard p flag noisy).HoldsNone q := by
  rw [State.HoldsNone, heard_table]
  exact h

/-- What the split rule leaves where the station has the lower address (R57). -/
theorem split_keeps {s : State} {n : Nat} {e : Entry} (h : s.EntryAt n e) (hmine : e.claim = .mine)
    (hst : s.station.transmits = true) {q : Addr} (hlow : s.ownAddr.toNat < q.toNat) (g : Byte) (c : Claim) (d : Byte) :
    split e.key e q g c d s =
      { produce (.reasserted e.key (natByte (max e.gen.toNat g.toNat + 1)))
          (s.putEntry n { e with gen := natByte (max e.gen.toNat g.toNat + 1) }) with
        urgent := placeState (.hold e.key) s.urgent } := by
  rw [split, if_pos hlow, splitKeep_at h hmine, hst]
  rfl

theorem split_gives_up {s : State} {n : Nat} {e : Entry} (h : s.EntryAt n e) {q : Addr}
    (hhigh : q.toNat < s.ownAddr.toNat) (g : Byte) (c : Claim) (d : Byte) :
    split e.key e q g c d s =
      produce (.lost e.key .split q)
        { s.putEntry n { e with claim := c, gen := d } with
          urgent := s.urgent.filter fun o => !o.isHoldOf e.key } := by
  rw [split, if_neg (Nat.lt_asymm hhigh), splitGiveUp_at h]

theorem claimObjectEarlier_mine {s : State} {n : Nat} {e : Entry} (h : s.EntryAt n e) (hmine : e.claim = .mine)
    (p : Addr) (g : Byte) :
    claimObjectEarlier p e.key g s = split e.key e p g (.peerAsking p s.deferralTime) e.gen s := by
  simp only [claimObjectEarlier, h.entry, hmine]

/-- Settles O36: each form of the evidence reaches the split rule, by `claimHold_mine`, `claimObjectEarlier_mine` and,
for a PRESENCE, `reconcile_single`. -/
theorem splitGoesToTheLowerAddress : Obligations.SplitGoesToTheLowerAddress := by
  intro s q k g noisy n e c hears hactive hconfig hq hlow hhigh hat hkey hmine
  subst hkey
  intro h gen kept lost
  have hall : s.DispatchesAll := ⟨by rw [hactive]; nofun, by rw [hactive]; nofun⟩
  have hk : validKey e.key = true := validKey_of_range hlow hhigh
  have hkeys : ∀ x ∈ [(e.key, g)], 1 ≤ x.1.toNat ∧ x.1.toNat ≤ 254 := fun x hx => by
    rw [List.mem_singleton.mp hx]
    exact ⟨hlow, hhigh⟩
  have hst (flag : Option Bool) : (s.heard q flag noisy).station.transmits = true := by
    rw [heard_station, hactive]
    rfl
  have hat' (flag : Option Bool) : (s.heard q flag noisy).EntryAt n e := hat.heard q flag noisy
  have hpresence (hnone : s.HoldsNone q) : exec (.presenceArrival q false false [(e.key, g)] noisy) s =
      .next (refreshAccess (split e.key e q g (.theirs q) g (s.heard q (some false) noisy))) := by
    rw [exec_presenceArrival_reconciles hears hall hq (by simp) hkeys (.inl rfl),
      reconcile_single (hat' _) (holdsNone_heard hnone _ _ _), claimHold_mine (hat' _) hmine]
  have hhold := exec_holdArrival hears hall hq hk g noisy
  have hheld := exec_objectArrival_held hears hall hq hk hq g noisy
  have hearlier := exec_objectArrival_earlier hears hall hq hk hq g noisy
  rw [claimHold_mine (hat' none) hmine] at hhold hheld
  rw [claimObjectEarlier_mine (hat' none) hmine] at hearlier
  refine ⟨fun hlower => ?_, fun hhigher => ?_⟩
  · have hlower' (flag : Option Bool) : (s.heard q flag noisy).ownAddr.toNat < q.toNat := by
      rw [heard_ownAddr]
      exact hlower
    have hkept (flag : Option Bool) (claim : Claim) (d : Byte) :
        .next (refreshAccess (split e.key e q g claim d (s.heard q flag noisy))) = kept (s.heard q flag noisy) := by
      rw [split_keeps (hat' flag) hmine (hst flag) (hlower' flag), heard_urgent]
    exact ⟨hhold.trans (hkept _ _ _), hheld.trans (hkept _ _ _), hearlier.trans (hkept _ _ _),
      fun hnone => (hpresence hnone).trans (hkept _ _ _)⟩
  · have hhigher' (flag : Option Bool) : q.toNat < (s.heard q flag noisy).ownAddr.toNat := by
      rw [heard_ownAddr]
      exact hhigher
    have hlost (flag : Option Bool) (claim : Claim) (d : Byte) :
        .next (refreshAccess (split e.key e q g claim d (s.heard q flag noisy))) =
          lost (s.heard q flag noisy) { e with claim := claim, gen := d } := by
      rw [split_gives_up (hat' flag) (hhigher' flag), heard_urgent]
    have hdeferral : (s.heard q none noisy).deferralTime = ms (2 * c.window.toNat) := by
      rw [State.deferralTime, heard_config, hconfig]
    rw [hdeferral] at hearlier
    exact ⟨hhold.trans (hlost _ _ _), hheld.trans (hlost _ _ _), hearlier.trans (hlost _ _ _),
      fun hnone => (hpresence hnone).trans (hlost _ _ _)⟩

end Sys2Proof.Machine

namespace Sys2Proof.Machine

/-! ### Each pair listed once -/

theorem filter_key_of_nodup {pairs : List (Byte × Byte)} (h : (pairs.map Prod.fst).Nodup) (k : Byte) :
    pairs.filter (fun x => x.1 == k) = (pairs.find? fun x => x.1 == k).toList := by
  induction pairs with
  | nil => rfl
  | cons x pairs ih =>
    obtain ⟨hx, hrest⟩ := List.nodup_cons.mp h
    by_cases hk : (x.1 == k) = true
    · have hnone : pairs.filter (fun y => y.1 == k) = [] := List.filter_eq_nil_iff.mpr fun y hy hyk =>
        hx ((beq_iff_eq.mp hk).trans (beq_iff_eq.mp hyk).symm ▸ List.mem_map_of_mem hy)
      rw [List.filter_cons_of_pos (p := fun y : Byte × Byte => y.1 == k) hk,
        List.find?_cons_of_pos (p := fun y : Byte × Byte => y.1 == k) hk, hnone]
      rfl
    · rw [List.filter_cons_of_neg (p := fun y : Byte × Byte => y.1 == k) hk,
        List.find?_cons_of_neg (p := fun y : Byte × Byte => y.1 == k) hk, ih hrest]

/-- With no key twice among the pairs, each entry is taken by its own pair or freed (R53, R54). -/
theorem settledEntry_of_nodup {pairs : List (Byte × Byte)} (h : (pairs.map Prod.fst).Nodup) (own p : Addr) (e : Entry) :
    settledEntry own p pairs e = reconciledEntry own p pairs e := by
  have hlisted : (pairs.any fun x => x.1 == e.key) = (pairs.find? fun x => x.1 == e.key).isSome :=
    List.isSome_find?.symm
  rw [settledEntry, pairsEntry, filter_key_of_nodup h, reconciledEntry, Entry.unlisted, hlisted]
  cases pairs.find? fun x => x.1 == e.key with
  | some x => simp
  | none => simp [Entry.freedClaim]

/-! ### The answer of a joining PRESENCE -/

theorem restartedAsks_congr {s t : State} (htable : t.table = s.table) (hst : t.station = s.station) (p : Addr)
    (pairs : List (Byte × Byte)) : restartedAsks t p pairs = restartedAsks s p pairs := by
  simp only [restartedAsks, unlistedKeys, State.claimOf, State.keysAscending, State.entry, htable, hst]

theorem keptOrders_congr {s t : State} (htable : t.table = s.table) (hnormal : t.normal = s.normal)
    (pairs : List (Byte × Byte)) : keptOrders t pairs = keptOrders s pairs := by
  simp only [keptOrders, State.isAsking, State.entry, htable, hnormal]

theorem mem_restartedAsks {s : State} {p : Addr} {pairs : List (Byte × Byte)} {o : NormalOrder}
    (h : o ∈ restartedAsks s p pairs) : o.isPresence = false := by
  rw [restartedAsks] at h
  split at h
  · obtain ⟨k, -, rfl⟩ := List.mem_map.mp h
    rfl
  · exact absurd h List.not_mem_nil

/-- The pairs take away ASK orders alone. -/
theorem keptOrders_isPresence (s : State) (pairs : List (Byte × Byte)) :
    (keptOrders s pairs).any NormalOrder.isPresence = s.normal.any NormalOrder.isPresence := by
  rw [keptOrders, List.any_filter]
  refine congrArg s.normal.any (funext fun o => ?_)
  cases o with
  | presence leaving => simp [NormalOrder.isPresence, NormalOrder.isAskOf]
  | _ => simp [NormalOrder.isPresence]

/-- The pairs leave a PRESENCE order at the tail. -/
theorem keptOrders_presence (s : State) (pairs : List (Byte × Byte)) (leaving : Bool) :
    keptOrders { s with normal := s.normal ++ [.presence leaving] } pairs =
      keptOrders s pairs ++ [.presence leaving] := by
  show (s.normal ++ [NormalOrder.presence leaving]).filter _ = _
  rw [List.filter_append]
  refine congrArg (keptOrders s pairs ++ ·) ?_
  simp [NormalOrder.isAskOf]

theorem restartLane_isPresence (station : StationState) (e : Entry) (lane : List NormalOrder) :
    (restartLane station e lane).any NormalOrder.isPresence = lane.any NormalOrder.isPresence := by
  rw [restartLane]
  split
  · simp [NormalOrder.isPresence]
  · rfl

/-- A reconciliation neither queues a PRESENCE nor takes one away. -/
theorem reconciledLane_isPresence (s : State) (p : Addr) (pairs : List (Byte × Byte)) :
    (s.reconciledLane p pairs).any NormalOrder.isPresence = s.normal.any NormalOrder.isPresence := by
  rw [State.reconciledLane, ← keptOrders_isPresence s pairs]
  generalize s.keysAscending.filterMap (s.paired p pairs).entry = entries
  generalize keptOrders s pairs = lane
  induction entries generalizing lane with
  | nil => rfl
  | cons e entries ih =>
    refine (ih _).trans ?_
    show (if e.unlisted p pairs then restartLane s.station e lane else lane).any NormalOrder.isPresence = _
    split
    · exact restartLane_isPresence s.station e lane
    · rfl

/-- A PRESENCE is pending once it has been requested in a station that transmits (R121). -/
theorem requestPresence_isPresence {s : State} (htransmits : s.station.transmits = true) (hslot : s.slotPresence = false) :
    (requestPresence s).normal.any NormalOrder.isPresence = true := by
  rw [requestPresence_transmits htransmits, hslot]
  cases hpending : s.normal.any NormalOrder.isPresence <;> simp [hpending, NormalOrder.isPresence]

theorem requestPresence_queued {s : State} (h : s.normal.any NormalOrder.isPresence = true) : requestPresence s = s := by
  simp [requestPresence, h]

theorem requestPresence_absent {s : State} (htransmits : s.station.transmits = true) (hslot : s.slotPresence = false)
    (h : s.normal.any NormalOrder.isPresence = false) :
    requestPresence s = { s with normal := s.normal ++ [.presence false] } := by
  rw [requestPresence_transmits htransmits, h, hslot]
  rfl

section Answer

variable {s : State} (h : (tableKeys s.table).Nodup) (p : Addr) (pairs : List (Byte × Byte))
include h

/-- Of the normal lane a reconciliation depends on, it changes that lane alone. -/
theorem reconcile_normal (lane : List NormalOrder) :
    reconcile p pairs { s with normal := lane } =
      { reconcile p pairs s with normal := { s with normal := lane }.reconciledLane p pairs } := by
  obtain ⟨hnotices, hcounters⟩ :=
    produceAll_congr (s := s) (t := { s with normal := lane }) rfl rfl rfl (s.reconcileNotices p pairs)
  rw [reconcile_fields h, reconcile_fields (s := { s with normal := lane }) h, ← hnotices, ← hcounters]
  rfl

/-- The reconciliation and the answer, whichever comes first: a PRESENCE is pending behind them (R73, log 6). -/
theorem reconcileAndAnswer_fields (htransmits : s.station.transmits = true) (hslot : s.slotPresence = false) :
    ∃ lane n, reconcileAndAnswer p pairs s = { reconcile p pairs s with normal := lane, freeCount := n } ∧
      lane.any NormalOrder.isPresence = true := by
  have hafter : (requestPresence (reconcile p pairs s)).normal.any NormalOrder.isPresence = true := by
    refine requestPresence_isPresence ?_ ?_
    · rw [reconcile_fields h]
      exact htransmits
    · rw [reconcile_fields h]
      exact hslot
  have hbefore : ((requestPresence s).reconciledLane p pairs).any NormalOrder.isPresence = true :=
    (reconciledLane_isPresence _ p pairs).trans (requestPresence_isPresence htransmits hslot)
  have heq : reconcile p pairs (requestPresence s) =
      { reconcile p pairs s with normal := (requestPresence s).reconciledLane p pairs } := by
    rw [requestPresence_eq s]
    exact reconcile_normal h p pairs _
  rw [reconcileAndAnswer]
  by_cases hsame : (requestPresence (reconcile p pairs s)).normal = (reconcile p pairs (requestPresence s)).normal
  · exact ⟨_, _, (if_pos hsame).trans (requestPresence_eq _), hafter⟩
  · cases hfirst : Config.answerFirst s.freeCount with
    | true =>
      refine ⟨_, s.freeCount + 1, (if_neg hsame).trans ?_, hbefore⟩
      rw [if_pos rfl, heq]
    | false =>
      refine ⟨_, s.freeCount + 1, (if_neg hsame).trans ?_, hafter⟩
      rw [if_neg Bool.false_ne_true, requestPresence_eq]

theorem reconcileAndAnswer_pending (hpending : s.normal.any NormalOrder.isPresence = true) :
    reconcileAndAnswer p pairs s = reconcile p pairs s := by
  have hafter : requestPresence (reconcile p pairs s) = reconcile p pairs s := by
    refine requestPresence_queued ?_
    rw [reconcile_fields h]
    exact (reconciledLane_isPresence s p pairs).trans hpending
  rw [reconcileAndAnswer, requestPresence_queued hpending, hafter]
  exact if_pos rfl

/-- With room in the normal lane and no PRESENCE pending the answer stands behind the restarted asks or before them, by
a free value where there are any (log 6). -/
theorem reconcileAndAnswer_absent (htransmits : s.station.transmits = true) (hslot : s.slotPresence = false)
    (habsent : s.normal.any NormalOrder.isPresence = false)
    (hroom : s.normal.length + 1 + (restartedAsks s p pairs).length ≤ 21) :
    ∃ lane : List NormalOrder,
      (lane = keptOrders s pairs ++ restartedAsks s p pairs ++ [.presence false] ∨
        lane = keptOrders s pairs ++ .presence false :: restartedAsks s p pairs) ∧
      reconcileAndAnswer p pairs s =
        { reconcile p pairs s with
          normal := lane
          freeCount := if restartedAsks s p pairs = [] then s.freeCount else s.freeCount + 1 } := by
  have hkept := length_keptOrders_le s pairs
  have hlane : (reconcile p pairs s).normal = keptOrders s pairs ++ restartedAsks s p pairs := by
    rw [reconcile_fields h]
    exact reconciledLane_eq p pairs (by omega)
  have hafter : requestPresence (reconcile p pairs s) =
      { reconcile p pairs s with
        normal := keptOrders s pairs ++ restartedAsks s p pairs ++ [.presence false] } := by
    rw [← hlane]
    refine requestPresence_absent ?_ ?_ ?_
    · rw [reconcile_fields h]
      exact htransmits
    · rw [reconcile_fields h]
      exact hslot
    · rw [reconcile_fields h]
      exact (reconciledLane_isPresence s p pairs).trans habsent
  have hbefore : reconcile p pairs (requestPresence s) =
      { reconcile p pairs s with
        normal := keptOrders s pairs ++ .presence false :: restartedAsks s p pairs } := by
    let t : State := { s with normal := s.normal ++ [.presence false] }
    have hkeptBefore : keptOrders t pairs = keptOrders s pairs ++ [.presence false] := keptOrders_presence s pairs false
    have hasks : restartedAsks t p pairs = restartedAsks s p pairs := restartedAsks_congr rfl rfl p pairs
    have hlaneBefore : t.reconciledLane p pairs =
        keptOrders s pairs ++ .presence false :: restartedAsks s p pairs := by
      rw [reconciledLane_eq p pairs, hkeptBefore, hasks, List.append_assoc]
      · rfl
      · rw [hkeptBefore, hasks, List.length_append, List.length_singleton]
        omega
    rw [requestPresence_absent htransmits hslot habsent, reconcile_normal h, hlaneBefore]
  have hfree : (reconcile p pairs s).freeCount = s.freeCount := by rw [reconcile_fields h]
  rw [reconcileAndAnswer, hafter, hbefore]
  by_cases hasks : restartedAsks s p pairs = []
  · refine ⟨_, .inl rfl, ?_⟩
    rw [if_pos hasks, hasks, ← hfree]
    exact if_pos (List.append_nil _ ▸ rfl)
  · have hdiffer : ¬ keptOrders s pairs ++ restartedAsks s p pairs ++ [.presence false] =
        keptOrders s pairs ++ .presence false :: restartedAsks s p pairs := by
      rw [List.append_assoc, List.append_cancel_left_eq]
      cases hcons : restartedAsks s p pairs with
      | nil => exact absurd hcons hasks
      | cons o rest =>
        have hpresence : o.isPresence = false := mem_restartedAsks (hcons ▸ List.mem_cons_self)
        intro heq
        rw [(List.cons.inj heq).1] at hpresence
        cases hpresence
    rw [if_neg hasks]
    cases hfirst : Config.answerFirst s.freeCount with
    | true =>
      refine ⟨_, .inr rfl, (if_neg hdiffer).trans ?_⟩
      exact if_pos rfl
    | false =>
      refine ⟨_, .inl rfl, (if_neg hdiffer).trans ?_⟩
      exact if_neg Bool.false_ne_true

end Answer

/-! ### The obligation -/

theorem heard_lastSource (s : State) (p : Addr) (flag : Option Bool) (noisy : Bool) :
    (s.heard p flag noisy).lastSource = p := by
  rw [State.heard, peerHeard_eq]
  rfl

theorem heard_freeCount (s : State) (p : Addr) (flag : Option Bool) (noisy : Bool) :
    (s.heard p flag noisy).freeCount = s.freeCount := by
  rw [State.heard, peerHeard_eq]
  rfl

/-- A station that hears a frame does not carry a PRESENCE. -/
theorem heard_slotPresence {s : State} (hears : s.Hears) (p : Addr) (flag : Option Bool) (noisy : Bool) :
    (s.heard p flag noisy).slotPresence = false := by
  have haccess : (s.heard p flag noisy).access = s.access.lineBusy := by
    rw [State.heard, peerHeard_eq]
    rfl
  have hidle : s.access.lineBusy.attempt = none :=
    Option.isSome_eq_false_iff.mp ((isDriving_lineBusy s).trans hears.2.1) |> Option.isNone_iff_eq_none.mp
  rw [State.slotPresence, State.slotOrder, haccess, hidle]
  rfl

/-- Settles O38: the arrival reaches the Presence Unit (`exec_presenceArrival`), whose reconciliation is
`reconcile_fields`, its single pair `reconcile_single`, and its answer `reconcileAndAnswer_fields`,
`reconcileAndAnswer_pending` and `reconcileAndAnswer_absent`. -/
theorem presenceArrivalReconcilesOrDeparts : Obligations.PresenceArrivalReconcilesOrDeparts := by
  intro s p joining noisy pairs hears hall hp hfits hkeys hnodup hlaw
  have hdistinct (flag : Option Bool) : (tableKeys (s.heard p flag noisy).table).Nodup := by
    rw [heard_table]
    exact hlaw.2.1
  have htransmits (hactive : s.station = .active) (flag : Option Bool) :
      (s.heard p flag noisy).station.transmits = true := by
    rw [heard_station, hactive]
    rfl
  have hslot := heard_slotPresence hears.1 p (noisy := noisy)
  have htable (flag : Option Bool) : (reconcile p pairs (s.heard p flag noisy)).table =
      s.table.map fun place => place.map (reconciledEntry s.ownAddr p pairs) := by
    rw [reconcile_fields (hdistinct flag), heard_table, heard_ownAddr,
      funext (settledEntry_of_nodup hnodup s.ownAddr p)]
  have hroster (flag : Option Bool) :
      (reconcile p pairs (s.heard p flag noisy)).roster = (s.heard p flag noisy).roster := by
    rw [reconcile_fields (hdistinct flag)]
  have hsource (flag : Option Bool) : (reconcile p pairs (s.heard p flag noisy)).lastSource = p := by
    rw [reconcile_fields (hdistinct flag)]
    exact heard_lastSource s p flag noisy
  refine ⟨?_, fun n e g x hat hasks hnone hpairs => ?_,
    fun hquiet => exec_presenceArrival_reconciles hears hall hp hfits hkeys hquiet noisy, ?_, ?_⟩
  · by_cases hquiet : joining = false ∨ s.station ≠ .active
    · refine ⟨_, exec_presenceArrival_reconciles hears hall hp hfits hkeys hquiet noisy, ?_, ?_, ?_, fun hj hactive => ?_⟩
      · rw [refreshAccess_table, htable]
      · rw [refreshAccess_roster, hroster]
      · rw [refreshAccess_lastSource, hsource]
      · rcases hquiet with hq | hq
        · exact absurd hj (by rw [hq]; exact Bool.false_ne_true)
        · exact absurd hactive hq
    · obtain ⟨hj, hactive⟩ : joining = true ∧ s.station = .active := by simpa using hquiet
      subst hj
      obtain ⟨lane, m, hanswer, hpresence⟩ := reconcileAndAnswer_fields (hdistinct (some true)) p pairs
        (htransmits hactive _) (hslot _)
      refine ⟨_, exec_presenceArrival_answers hears hall hp hfits hkeys hactive noisy, ?_, ?_, ?_, fun _ _ => ?_⟩
      · rw [refreshAccess_table, hanswer, htable]
      · rw [refreshAccess_roster, hanswer, hroster]
      · rw [refreshAccess_lastSource, hanswer, hsource]
      · rw [refreshAccess_normal, hanswer]
        exact hpresence
  · subst hpairs
    rw [exec_presenceArrival_reconciles hears hall hp hfits hkeys (.inl rfl),
      reconcile_single (hat.heard p _ noisy) (holdsNone_heard hnone p _ noisy),
      claimHold_asking (hat.heard p _ noisy) hasks, State.askLost, heard_normal]
  · intro hactive r asks hroom
    have hsame : restartedAsks (s.heard p (some true) noisy) p pairs = asks :=
      restartedAsks_congr (heard_table _ _ _ _) (heard_station _ _ _ _) p pairs
    have hkept : keptOrders (s.heard p (some true) noisy) pairs = keptOrders s pairs :=
      keptOrders_congr (heard_table _ _ _ _) (heard_normal _ _ _ _) pairs
    rw [exec_presenceArrival_answers hears hall hp hfits hkeys hactive]
    refine ⟨fun hpending => ?_, fun habsent => ?_⟩
    · rw [reconcileAndAnswer_pending (hdistinct _) p pairs (by rw [heard_normal]; exact hpending)]
    · obtain ⟨lane, hlane, hanswer⟩ := reconcileAndAnswer_absent (hdistinct (some true)) p pairs
        (htransmits hactive _) (hslot _) (by rw [heard_normal]; exact habsent)
        (by rw [heard_normal, hsame]; exact hroom)
      rw [hsame, hkept] at hlane
      rw [hsame, heard_freeCount] at hanswer
      exact ⟨lane, hlane, congrArg (fun t => Host.Outcome.next (refreshAccess t)) hanswer⟩
  · rw [exec_presenceArrival hears hall hp hfits hkeys, if_pos rfl, peerDeparts]
    have hpeer : (s.tookFrame p noisy).peer p = s.peer p := rfl
    rw [hpeer]
    cases s.peer p with
    | some e => rfl
    | none => rfl

end Sys2Proof.Machine
